-- ==== Sys2Proof/Word.lean ====
section
/-! DEFINITION. The one word of the block: the byte (00_scope.md rule R11). Every field of every frame is one byte
(20_memory.md rule R61), so no wider word exists; lengths are natural numbers (40_codec.md rule R131). -/

namespace Sys2Proof

/-- A byte, an unsigned integer 0 to 255 with bit 0 the least significant (R11). Addition and subtraction of
`BitVec 8` are the block's arithmetic modulo 256 (R131). -/
abbrev Byte := BitVec 8

end Sys2Proof
end

