-- ==== Sys2Proof/Config.lean ====
section
/-! DEFINITION. The constants the source fixes (00_scope.md rule R5), the nine open parameters with their
well-formedness conditions (R6), and the model's free values: opaque constants of which nothing can be proved. -/

namespace Sys2Proof

namespace Config

/-! ### Constants the source fixes (R5) -/

def usbHdr0 : Byte := 0x10
def usbHdr1 : Byte := 0x01
/-- Largest USB transfer, header included. -/
def usbXferMax : Nat := 512
def oposStuff : Byte := 0xA0
/-- Added (mod 256) to a stuffed OPOS byte; the same operation as subtracting `oposStuff` (R88). -/
def oposOffset : Byte := 0x60
def addrMax : Nat := 31
def framePayloadMax : Nat := 256
/-- The value the running sum must have at the end delimiter. -/
def csumGood : Byte := 0xFF
/-- The byte the firmware updater expects in download mode; no rule of the block compares it (R196). -/
def dlAckByte : Byte := 0x06
/-- Time `send` waits for an ACK, Serial450, in ms; recorded, and no rule depends on it (R271). -/
def tAckS450 : Nat := 200
/-- As `tAckS450`, for OPOS. -/
def tAckOpos : Nat := 300
/-- USB output pipe timeout in ms; recorded only. -/
def tUsbOut : Nat := 1000
/-- Serial baud rate; recorded only. -/
def baudDefault : Nat := 115200

end Config

/-! ### Well-formedness of the open parameters (R6) -/

/-- WF1: the three sentinels of a variant are pairwise distinct. -/
def sentinelsDistinct (start stop stuff : Byte) : Bool :=
  start != stop && start != stuff && stop != stuff

/-- `b` is one of the three sentinels. -/
def isOneOf (start stop stuff b : Byte) : Bool :=
  b == start || b == stop || b == stuff

/-- WF2: for every sentinel `b`, `(b - stuff) mod 256` is not a sentinel. -/
def imagesClear (start stop stuff : Byte) : Bool :=
  !isOneOf start stop stuff (start - stuff) && !isOneOf start stop stuff (stop - stuff) &&
    !isOneOf start stop stuff (stuff - stuff)

/-- The open parameters of the Serial450 variant (R6), with WF1, WF2 and WF3 carried beside them: an assignment that
breaks them is refused by there being no such value (93_implementation_defined.md U5). The field defaults are the
illustrative REFA of 95_test_vectors.md, which show the type inhabited and serve the tests; they are NOT the device's
values and no meaning uses them (the machine's own assignment is the opaque `Config.params`). -/
structure S450Params where
  /-- `S450_START` -/
  start : Byte := 0xFE
  /-- `S450_END` -/
  stop : Byte := 0xFF
  /-- `S450_STUFF` -/
  stuff : Byte := 0xFD
  /-- `FT_ACK` -/
  ftAck : Byte := 0x06
  /-- `FT_SYSTEM` -/
  ftSystem : Byte := 0x53
  /-- `FT_CMD` -/
  ftCmd : Byte := 0x43
  wf1 : sentinelsDistinct start stop stuff = true := by decide
  wf2 : imagesClear start stop stuff = true := by decide
  wf3 : sentinelsDistinct ftAck ftSystem ftCmd = true := by decide
  deriving DecidableEq, Repr, Inhabited

/-- The open parameters of the OPOS variant (R6); the stuff sentinel is the source's `0xA0`. The defaults of `us` and
`eot` are those R6 gives [general knowledge, not in source]; that of `autoAck` only shows the type inhabited. -/
structure OposParams where
  /-- `OPOS_US` -/
  us : Byte := 0x1F
  /-- `OPOS_EOT` -/
  eot : Byte := 0x04
  /-- `OPOS_AUTO_ACK` -/
  autoAck : Bool := false
  wf1 : sentinelsDistinct us eot Config.oposStuff = true := by decide
  wf2 : imagesClear us eot Config.oposStuff = true := by decide
  deriving DecidableEq, Repr, Inhabited

/-- The nine open parameters, constant for the life of the block (R6, R68). -/
structure Params where
  s450 : S450Params := {}
  opos : OposParams := {}
  deriving DecidableEq, Repr, Inhabited

namespace Config

/-- FREE VALUE: the assignment of the open parameters of the machine that comes out of reset. R6 leaves it open, so
nothing can be proved of it but that it is well formed (DESIGN CHOICE, log entry 1). -/
opaque params : Params

/-- FREE VALUE: how many bytes of a frame reach the channel when draw number `n` is a failed write
(93_implementation_defined.md U7, rule R187; DESIGN CHOICE, log entry 5). -/
opaque cutLength : Nat → Nat

/-- FREE VALUE: the content of register `dl_ack` after the reset that made draw number `n` (rules R40, R210, U6;
DESIGN CHOICE, log entry 4). -/
opaque dlAckAfterReset : Nat → Byte

/-- The open parameters with the OPOS delimiters at the defaults that the opcode table's `match` values use (R6, R96);
the others stay open. Only `decodeTableWord` and `withFetchWord` use it. -/
def tableParams (p : Params) : Params :=
  { p with opos := { p.opos with us := 0x1F, eot := 0x04, wf1 := by decide, wf2 := by decide } }

end Config

end Sys2Proof
end

