-- ==== Sys2Proof/Syntax.lean ====
section
/-! DEFINITION. The names the spec uses (variants, link states, byte classes, frames, errors), `Instr` with one
constructor per row of spec/opcode_table.json, and `Arrival`, what an agent presents to the block. -/

namespace Sys2Proof

/-- The three protocol variants (10_state.md rule R29). -/
inductive Variant where
  | usb | s450 | opos
  deriving DecidableEq, Repr, Inhabited

/-- The two serial variants, the ones with sentinels, a checksum and an assembler: the `v` of 40_codec.md. -/
inductive Serial where
  | s450 | opos
  deriving DecidableEq, Repr, Inhabited

/-- A serial variant as a variant. -/
def Serial.toVariant : Serial → Variant
  | .s450 => .s450
  | .opos => .opos

/-- The serial variant of a variant, if it is one. -/
def Variant.serial? : Variant → Option Serial
  | .usb => none
  | .s450 => some .s450
  | .opos => some .opos

/-- The codes of register `variant` (R29); code 3 is reserved. -/
def Variant.code : Variant → BitVec 2
  | .usb => 0
  | .s450 => 1
  | .opos => 2

/-- Link state `ls` (R21): three values, no fourth. -/
inductive LinkState where
  | idle | receiving | escapeSeen
  deriving DecidableEq, Repr, Inhabited

/-- The codes of register `ls` (R21). -/
def LinkState.code : LinkState → BitVec 2
  | .idle => 0
  | .receiving => 1
  | .escapeSeen => 2

/-- The class of a received byte in a serial variant (30_encoding.md rule R90). -/
inductive ByteClass where
  | start | stop | stuff | ord
  deriving DecidableEq, Repr

/-- A Frame (40_codec.md preamble): `ftype` is present for `S450` only, `dest` for the serial variants only. -/
structure Frame where
  ftype : Option Byte
  dest : Option Byte
  payload : List Byte
  deriving DecidableEq, Repr

/-- Decode error codes (60_exceptions.md rule R230). -/
inductive DecodeError where
  | short | long | delim | esc | overflow | csum | len
  deriving DecidableEq, Repr

/-- The numeric codes of R230. -/
def DecodeError.code : DecodeError → Nat
  | .short => 1
  | .long => 2
  | .delim => 3
  | .esc => 4
  | .overflow => 5
  | .csum => 6
  | .len => 7

/-- The answer of `DEC.*` and `PARSE` (40_codec.md preamble): `OK(Frame)` or `Err(code)`. -/
inductive DecodeResult where
  | ok (f : Frame)
  | err (e : DecodeError)
  deriving DecidableEq, Repr

/-- The operations of the block, one constructor per row of spec/opcode_table.json, in the table's order. Operands
are those of the row's rule; a row whose encoding fixes the byte (a sentinel) has no byte operand. -/
inductive Instr where
  -- HOSTOP
  | reset
  | cfg (variant : BitVec 2) (addr : Nat) (watchSet : List Byte)
  | connect (chanOk : Bool)
  | disconnect
  | settrace (e : Bool)
  | isserial
  | dlmode (on : Bool)
  | send (ftype : Byte) (data : List Byte) (wrOk : Bool)
  | sendw (ftype : Byte) (data : List Byte) (wrOk : Bool)
  | take
  | rdstat
  | dltake
  -- TIMEROP
  | expire
  -- LINEOP, RXBYTE
  | rxb (b : Byte)
  | rxbDl (b : Byte)
  | rxbIdleStartS450
  | rxbIdleStartOpos
  | rxbIdleOtherS450 (b : Byte)
  | rxbIdleOtherOpos (b : Byte)
  | rxbReceivingStartS450
  | rxbReceivingStartOpos
  | rxbReceivingStuffS450
  | rxbReceivingStuffOpos
  | rxbReceivingEndS450
  | rxbReceivingEndOpos
  | rxbReceivingOrdS450 (b : Byte)
  | rxbReceivingOrdOpos (b : Byte)
  | rxbEscapeSeenAnyS450 (b : Byte)
  | rxbEscapeSeenAnyOpos (b : Byte)
  | accum (x : Byte)
  | rxt (xfer : List Byte)
  | cherr
  -- DISPATCH
  | dispatchAddr (f : Frame)
  | dispatchAckS450 (f : Frame)
  | dispatchAckOpos (f : Frame)
  | dispatchAutoack (f : Frame)
  | deliverUnsol (f : Frame)
  | deliverRsp (f : Frame)
  | dispatchUsb (f : Frame)
  -- frame layouts
  | frameUsb (payload : List Byte)
  | frameS450 (ftype dest : Byte) (payload : List Byte)
  | frameOpos (dest : Byte) (payload : List Byte)
  | ackS450 (dest : Byte)
  | ackOpos (dest : Byte)
  -- PURE
  | esc (v : Serial) (b : Byte)
  | unesc (v : Serial) (e : Byte)
  | chk (v : Serial) (hp : List Byte)
  | encUsb (ftype dest : Byte) (data : List Byte)
  | encS450 (ftype dest : Byte) (data : List Byte)
  | encOpos (ftype dest : Byte) (data : List Byte)
  | decUsb (raw : List Byte)
  | decS450 (raw : List Byte)
  | decOpos (raw : List Byte)
  | parse (v : Serial) (body : List Byte)
  deriving DecidableEq, Repr

/-- What arrives at the block in one step (00_scope.md rule R9, 30_encoding.md rule R94): a byte or a transfer or a
failure from the `LINE` agent, or an operation the `HOST` or `TIMER` agent selects by name. -/
inductive Arrival where
  | byte (b : Byte)
  | transfer (xfer : List Byte)
  | failure
  | named (i : Instr)
  deriving DecidableEq, Repr

/-- What the meaning of the next received byte depends on, beside the byte (10_state.md rule R24, 41_link_assembler.md
rule R162), and the open parameters. -/
structure Context where
  params : Params
  variant : Variant
  isOpen : Bool
  dlMode : Bool
  ls : LinkState
  deriving DecidableEq, Repr

end Sys2Proof
end

