-- ==== Sys2Proof/WellFormed.lean ====
section
/-! DEFINITION. Which operand values the spec's rules and table give a row. A term that fails the check is not
meaningless: where a rule says what becomes of it (a `refuse`, a `none`, a `false`), its meaning does that. -/

namespace Sys2Proof

/-- The largest body of a serial variant as a literal of R7 (`BODY_MAX`): 259 and 258. -/
def bodyLimit : Serial → Nat
  | .s450 => 259
  | .opos => 258

/-- `f` is a Frame that `PARSE_v` or `DEC.USB` can return in variant `v` (rules R127, R130). -/
def Frame.fits (v : Variant) (f : Frame) : Bool :=
  match v with
  | .usb => f.ftype.isNone && f.dest.isNone && decide (f.payload.length ≤ 256)
  | .s450 => f.ftype.isSome && f.dest.isSome && decide (f.payload.length ≤ 255)
  | .opos => f.ftype.isNone && f.dest.isSome && decide (f.payload.length ≤ 255)

/-- `f` is a Frame of some variant. -/
def Frame.fitsSome (f : Frame) : Bool :=
  f.fits .usb || f.fits .s450 || f.fits .opos

/-- Well-formed operands of each row, under the assignment `p` of the open parameters. -/
def Instr.wellFormed (p : Params) : Instr → Bool
  | .reset => true
  | .cfg variant addr _ => variant != 3 && decide (addr ≤ 31)
  | .connect _ => true
  | .disconnect => true
  | .settrace _ => true
  | .isserial => true
  | .dlmode _ => true
  | .send _ _ _ => true
  | .sendw _ _ _ => true
  | .take => true
  | .rdstat => true
  | .dltake => true
  | .expire => true
  | .rxb _ => true
  | .rxbDl _ => true
  | .rxbIdleStartS450 => true
  | .rxbIdleStartOpos => true
  | .rxbIdleOtherS450 b => b != p.s450.start
  | .rxbIdleOtherOpos b => b != p.opos.us
  | .rxbReceivingStartS450 => true
  | .rxbReceivingStartOpos => true
  | .rxbReceivingStuffS450 => true
  | .rxbReceivingStuffOpos => true
  | .rxbReceivingEndS450 => true
  | .rxbReceivingEndOpos => true
  | .rxbReceivingOrdS450 b => !isOneOf p.s450.start p.s450.stop p.s450.stuff b
  | .rxbReceivingOrdOpos b => !isOneOf p.opos.us p.opos.eot Config.oposStuff b
  | .rxbEscapeSeenAnyS450 _ => true
  | .rxbEscapeSeenAnyOpos _ => true
  | .accum _ => true
  | .rxt xfer => decide (xfer.length ≤ Config.usbXferMax)
  | .cherr => true
  | .dispatchAddr f => f.fits .s450 || f.fits .opos
  | .dispatchAckS450 f => f.fits .s450 && f.ftype == some p.s450.ftAck
  | .dispatchAckOpos f => f.fits .opos && f.payload.isEmpty
  | .dispatchAutoack f => f.fits .s450 || f.fits .opos
  | .deliverUnsol f => f.fitsSome && !f.payload.isEmpty
  | .deliverRsp f => f.fitsSome
  | .dispatchUsb f => f.fits .usb
  | .frameUsb payload => decide (payload.length ≤ 256)
  | .frameS450 ftype dest payload =>
    isOneOf p.s450.ftAck p.s450.ftSystem p.s450.ftCmd ftype && decide (dest.toNat ≤ 31) &&
      decide (payload.length ≤ 255)
  | .frameOpos dest payload => decide (dest.toNat ≤ 31) && decide (payload.length ≤ 255)
  | .ackS450 dest => decide (dest.toNat ≤ 31)
  | .ackOpos dest => decide (dest.toNat ≤ 31)
  | .esc _ _ => true
  | .unesc _ _ => true
  | .chk _ _ => true
  | .encUsb _ _ _ => true
  | .encS450 _ _ _ => true
  | .encOpos _ _ _ => true
  | .decUsb _ => true
  | .decS450 _ => true
  | .decOpos _ => true
  | .parse v body => decide (body.length ≤ bodyLimit v)

end Sys2Proof
end

