-- ==== Sys2Proof/Decode.lean ====
section
/-! DEFINITION. Taking bits apart and putting them together. First the codec: byte classes, checksum, escaping, the
encoders and decoders of whole frames (30_encoding.md, 40_codec.md), all pure. Then the decoder of arrivals: which row
of the opcode table an arriving byte, transfer, failure or named operation is (41_link_assembler.md rule R162), and the
encoder that gives an operation's arrival, or a layout row's wire bytes, back. -/

namespace Sys2Proof

/-! ### Per-variant constants (00_scope.md rules R6, R7; 30_encoding.md rule R90) -/

/-- `START_v`: the start delimiter. -/
def startOf (p : Params) : Serial → Byte
  | .s450 => p.s450.start
  | .opos => p.opos.us

/-- `END_v`: the end delimiter. -/
def stopOf (p : Params) : Serial → Byte
  | .s450 => p.s450.stop
  | .opos => p.opos.eot

/-- `STUFF_v`: the stuff sentinel. -/
def stuffOf (p : Params) : Serial → Byte
  | .s450 => p.s450.stuff
  | .opos => Config.oposStuff

/-- `b` is a sentinel of `v`: its start delimiter, end delimiter or stuff sentinel. -/
def isSentinel (p : Params) (v : Serial) (b : Byte) : Bool :=
  isOneOf (startOf p v) (stopOf p v) (stuffOf p v) b

/-- `class_v(b)`, R90, the tests in the rule's order. -/
def classOf (p : Params) (v : Serial) (b : Byte) : ByteClass :=
  if b = startOf p v then .start
  else if b = stopOf p v then .stop
  else if b = stuffOf p v then .stuff
  else .ord

/-- `HDR[v]`: body bytes before the payload (R7). -/
def headerLength : Serial → Nat
  | .s450 => 3
  | .opos => 2

/-- `PAYLOAD_MAX` (R7). -/
def payloadMax : Variant → Nat
  | .usb => 256
  | .s450 => 255
  | .opos => 255

/-- `BODY_MAX[v] = HDR[v] + 255 + 1` (R7). -/
def bodyMax (v : Serial) : Nat :=
  headerLength v + 255 + 1

/-- `SEED[v]`: the initial running sum (R7). -/
def seed (p : Params) : Serial → Byte
  | .s450 => p.s450.start
  | .opos => 0x00

/-! ### Byte-level functions (40_codec.md rules R120 to R122) -/

/-- `sum(x) mod 256` (R11, R131). -/
def byteSum : List Byte → Byte
  | [] => 0
  | b :: bs => b + byteSum bs

/-- `ESC_v(b)` (R120, R88). -/
def escByte (p : Params) (v : Serial) (b : Byte) : List Byte :=
  if b = startOf p v ∨ b = stopOf p v ∨ b = stuffOf p v then [stuffOf p v, b - stuffOf p v] else [b]

/-- `ESC` of a list: the concatenation of `ESC` of its elements (R120). -/
def escList (p : Params) (v : Serial) : List Byte → List Byte
  | [] => []
  | b :: bs => escByte p v b ++ escList p v bs

/-- `UNESC_v(e)` (R121). -/
def unescByte (p : Params) (v : Serial) (e : Byte) : Byte :=
  e + stuffOf p v

/-- `CHK_v(hp)` (R122, R87). -/
def checksum (p : Params) (v : Serial) (hp : List Byte) : Byte :=
  0xFF - (seed p v + byteSum hp)

/-- The sum test of R87 and R130: the running sum over the body, checksum byte included, is `0xFF`. -/
def sumGood (p : Params) (v : Serial) (body : List Byte) : Bool :=
  seed p v + byteSum body == Config.csumGood

/-! ### Encode (40_codec.md rules R124 to R126) -/

/-- `ENC.USB` (R124); the format has no field for a type or an address. -/
def encodeUsb (data : List Byte) : Option (List Byte) :=
  if data.length > 256 then none else some ([Config.usbHdr0, Config.usbHdr1] ++ data)

/-- The delimiters round the escaped body that header-and-payload `hp` and its checksum make (R125, R126). -/
def frameAround (p : Params) (v : Serial) (hp : List Byte) : List Byte :=
  [startOf p v] ++ escList p v (hp ++ [checksum p v hp]) ++ [stopOf p v]

/-- `ENC.S450` (R125). -/
def encodeS450 (p : Params) (ftype dest : Byte) (data : List Byte) : Option (List Byte) :=
  if ftype ≠ p.s450.ftAck ∧ ftype ≠ p.s450.ftSystem ∧ ftype ≠ p.s450.ftCmd then none
  else if dest.toNat > 31 then none
  else if data.length > 255 then none
  else some (frameAround p .s450 ([ftype, dest, BitVec.ofNat 8 data.length] ++ data))

/-- `ENC.OPOS` (R126); the format has no type field. -/
def encodeOpos (p : Params) (dest : Byte) (data : List Byte) : Option (List Byte) :=
  if dest.toNat > 31 then none
  else if data.length > 255 then none
  else some (frameAround p .opos ([dest, BitVec.ofNat 8 data.length] ++ data))

/-- `ENC.v` for the variant `v` (R11, R187). -/
def encodeFor (p : Params) (v : Variant) (ftype dest : Byte) (data : List Byte) : Option (List Byte) :=
  match v with
  | .usb => encodeUsb data
  | .s450 => encodeS450 p ftype dest data
  | .opos => encodeOpos p dest data

/-! ### Decode (40_codec.md rules R127 to R130) -/

/-- `DEC.USB` (R127): the two header bytes are stripped unread. -/
def decodeUsb (raw : List Byte) : DecodeResult :=
  if raw.length < 2 then .err .short
  else if raw.length > 258 then .err .long
  else .ok { ftype := none, dest := none, payload := raw.drop 2 }

/-- The fields of an un-escaped body that passed its tests (R130). -/
def bodyFields (v : Serial) (body payload : List Byte) : Frame :=
  match v with
  | .s450 => { ftype := body[0]?, dest := body[1]?, payload := payload }
  | .opos => { ftype := none, dest := body[0]?, payload := payload }

/-- `PARSE_v` (R130): length, then sum, then `LEN`. -/
def parseBody (p : Params) (v : Serial) (body : List Byte) : DecodeResult :=
  if body.length < headerLength v + 1 then .err .short
  else if !sumGood p v body then .err .csum
  else if (body.getD (headerLength v - 1) 0).toNat ≠ ((body.drop (headerLength v)).dropLast).length then .err .len
  else .ok (bodyFields v body ((body.drop (headerLength v)).dropLast))

/-- The left-to-right scan of R128 over the bytes between the delimiters: `body` is what has been un-escaped so far and
`escaped` says that the byte before was a stuff sentinel. -/
def scanInterior (p : Params) (v : Serial) (body : List Byte) (escaped : Bool) : List Byte → DecodeResult
  | [] => if escaped then .err .esc else parseBody p v body
  | b :: rest =>
    if escaped then
      if (body ++ [unescByte p v b]).length > bodyMax v then .err .overflow
      else scanInterior p v (body ++ [unescByte p v b]) false rest
    else if b = stuffOf p v then scanInterior p v body true rest
    else if b = startOf p v ∨ b = stopOf p v then .err .delim
    else if (body ++ [b]).length > bodyMax v then .err .overflow
    else scanInterior p v (body ++ [b]) false rest

/-- `DEC.S450` and `DEC.OPOS` (R128, R129). -/
def decodeSerial (p : Params) (v : Serial) (raw : List Byte) : DecodeResult :=
  if raw.length < 2 ∨ raw.head? ≠ some (startOf p v) ∨ raw.getLast? ≠ some (stopOf p v) then .err .delim
  else scanInterior p v [] false (raw.drop 1).dropLast

/-! ### Frame layouts, field by field (30_encoding.md rules R81 to R83, R89)

Written from the layout tables, apart from the encoders of R124 to R126, which they must agree with. -/

/-- Format `USB` (R81): `HDR0 HDR1 PAYLOAD`, 0 to 256 payload bytes. -/
def layoutUsb (payload : List Byte) : Option (List Byte) :=
  if payload.length ≤ 256 then some (Config.usbHdr0 :: Config.usbHdr1 :: payload) else none

/-- Format `S450` (R82): `START esc(FRAME) esc(DEST) esc(LEN) esc(PAYLOAD) esc(CHECKSUM) END`. -/
def layoutS450 (p : Params) (ftype dest : Byte) (payload : List Byte) : Option (List Byte) :=
  if isOneOf p.s450.ftAck p.s450.ftSystem p.s450.ftCmd ftype && decide (dest.toNat ≤ 31) &&
      decide (payload.length ≤ 255) then
    some (p.s450.start :: (escByte p .s450 ftype ++ escByte p .s450 dest ++
      escByte p .s450 (BitVec.ofNat 8 payload.length) ++ escList p .s450 payload ++
      escByte p .s450 (0xFF - (p.s450.start + ftype + dest + BitVec.ofNat 8 payload.length + byteSum payload)) ++
      [p.s450.stop]))
  else none

/-- Format `OPOS` (R83): `US esc(DEST) esc(LEN) esc(PAYLOAD) esc(CHECKSUM) EOT`. -/
def layoutOpos (p : Params) (dest : Byte) (payload : List Byte) : Option (List Byte) :=
  if decide (dest.toNat ≤ 31) && decide (payload.length ≤ 255) then
    some (p.opos.us :: (escByte p .opos dest ++ escByte p .opos (BitVec.ofNat 8 payload.length) ++
      escList p .opos payload ++
      escByte p .opos (0xFF - (dest + BitVec.ofNat 8 payload.length + byteSum payload)) ++ [p.opos.eot]))
  else none

/-- The `S450` ACK (R89): body `[FT_ACK, d, 0x00, c]`, `c = (0xFF - (S450_START + FT_ACK + d)) mod 256`. -/
def layoutAckS450 (p : Params) (d : Byte) : Option (List Byte) :=
  if d.toNat ≤ 31 then
    some (p.s450.start :: (escByte p .s450 p.s450.ftAck ++ escByte p .s450 d ++ escByte p .s450 0x00 ++
      escByte p .s450 (0xFF - (p.s450.start + p.s450.ftAck + d)) ++ [p.s450.stop]))
  else none

/-- The `OPOS` ACK (R89): body `[d, 0x00, c]`, `c = (0xFF - d) mod 256`. -/
def layoutAckOpos (p : Params) (d : Byte) : Option (List Byte) :=
  if d.toNat ≤ 31 then
    some (p.opos.us :: (escByte p .opos d ++ escByte p .opos 0x00 ++ escByte p .opos (0xFF - d) ++ [p.opos.eot]))
  else none

/-! ### The decoder of arrivals (41_link_assembler.md rules R150, R162; 30_encoding.md rule R94) -/

/-- The seven transitions of a serial variant, by link state and class (R162, its last seven rows). -/
def transitionRow (v : Serial) (ls : LinkState) (k : ByteClass) (b : Byte) : Instr :=
  match v, ls, k with
  | .s450, .idle, .start => .rxbIdleStartS450
  | .s450, .idle, .stop => .rxbIdleOtherS450 b
  | .s450, .idle, .stuff => .rxbIdleOtherS450 b
  | .s450, .idle, .ord => .rxbIdleOtherS450 b
  | .s450, .receiving, .start => .rxbReceivingStartS450
  | .s450, .receiving, .stuff => .rxbReceivingStuffS450
  | .s450, .receiving, .stop => .rxbReceivingEndS450
  | .s450, .receiving, .ord => .rxbReceivingOrdS450 b
  | .s450, .escapeSeen, _ => .rxbEscapeSeenAnyS450 b
  | .opos, .idle, .start => .rxbIdleStartOpos
  | .opos, .idle, .stop => .rxbIdleOtherOpos b
  | .opos, .idle, .stuff => .rxbIdleOtherOpos b
  | .opos, .idle, .ord => .rxbIdleOtherOpos b
  | .opos, .receiving, .start => .rxbReceivingStartOpos
  | .opos, .receiving, .stuff => .rxbReceivingStuffOpos
  | .opos, .receiving, .stop => .rxbReceivingEndOpos
  | .opos, .receiving, .ord => .rxbReceivingOrdOpos b
  | .opos, .escapeSeen, _ => .rxbEscapeSeenAnyOpos b

/-- Which row a received byte selects (R162). The rows that are R150's own (the `USB` refusal, the byte lost while
closed) stay `RXB`; so does download mode outside OPOS, which R162 says cannot arise (DESIGN CHOICE, log entry 9). -/
def decodeByte (c : Context) (b : Byte) : Instr :=
  match c.variant with
  | .usb => .rxb b
  | .s450 =>
    if c.isOpen && !c.dlMode then transitionRow .s450 c.ls (classOf c.params .s450 b) b else .rxb b
  | .opos =>
    if !c.isOpen then .rxb b
    else if c.dlMode then .rxbDl b
    else transitionRow .opos c.ls (classOf c.params .opos b) b

/-- The operations that the `HOST` and `TIMER` agents select by name (R9, R94). The other rows are selected by an
arrival of the `LINE` agent, or are sub-steps and layouts that no agent issues. -/
def Instr.isByName : Instr → Bool
  | .reset => true
  | .cfg _ _ _ => true
  | .connect _ => true
  | .disconnect => true
  | .settrace _ => true
  | .isserial => true
  | .dlmode _ => true
  | .send _ _ _ => true
  | .sendw _ _ _ => true
  | .take => true
  | .rdstat => true
  | .dltake => true
  | .expire => true
  | .rxb _ => false
  | .rxbDl _ => false
  | .rxbIdleStartS450 => false
  | .rxbIdleStartOpos => false
  | .rxbIdleOtherS450 _ => false
  | .rxbIdleOtherOpos _ => false
  | .rxbReceivingStartS450 => false
  | .rxbReceivingStartOpos => false
  | .rxbReceivingStuffS450 => false
  | .rxbReceivingStuffOpos => false
  | .rxbReceivingEndS450 => false
  | .rxbReceivingEndOpos => false
  | .rxbReceivingOrdS450 _ => false
  | .rxbReceivingOrdOpos _ => false
  | .rxbEscapeSeenAnyS450 _ => false
  | .rxbEscapeSeenAnyOpos _ => false
  | .accum _ => false
  | .rxt _ => false
  | .cherr => false
  | .dispatchAddr _ => false
  | .dispatchAckS450 _ => false
  | .dispatchAckOpos _ => false
  | .dispatchAutoack _ => false
  | .deliverUnsol _ => false
  | .deliverRsp _ => false
  | .dispatchUsb _ => false
  | .frameUsb _ => false
  | .frameS450 _ _ _ => false
  | .frameOpos _ _ => false
  | .ackS450 _ => false
  | .ackOpos _ => false
  | .esc _ _ => true
  | .unesc _ _ => true
  | .chk _ _ => true
  | .encUsb _ _ _ => true
  | .encS450 _ _ _ => true
  | .encOpos _ _ _ => true
  | .decUsb _ => true
  | .decS450 _ => true
  | .decOpos _ => true
  | .parse _ _ => true

/-- The decoder: the operation an arrival is, in the context it arrives in. Total; it refuses only a name that no agent
issues (a sub-step, a layout, or a `LINE` operation asked for by name). -/
def decode (c : Context) : Arrival → Option Instr
  | .byte b => some (decodeByte c b)
  | .transfer xfer => some (.rxt xfer)
  | .failure => some .cherr
  | .named i => if i.isByName then some i else none

/-! ### The encoder -/

/-- The encoder of operations: the arrival that presents `i` to the block. A row with a sentinel in its encoding gives
that sentinel's byte; a sub-step or layout has no arrival of its own. -/
def encode (p : Params) : Instr → Option Arrival
  | .rxb b => some (.byte b)
  | .rxbDl b => some (.byte b)
  | .rxbIdleStartS450 => some (.byte p.s450.start)
  | .rxbIdleStartOpos => some (.byte p.opos.us)
  | .rxbIdleOtherS450 b => some (.byte b)
  | .rxbIdleOtherOpos b => some (.byte b)
  | .rxbReceivingStartS450 => some (.byte p.s450.start)
  | .rxbReceivingStartOpos => some (.byte p.opos.us)
  | .rxbReceivingStuffS450 => some (.byte p.s450.stuff)
  | .rxbReceivingStuffOpos => some (.byte Config.oposStuff)
  | .rxbReceivingEndS450 => some (.byte p.s450.stop)
  | .rxbReceivingEndOpos => some (.byte p.opos.eot)
  | .rxbReceivingOrdS450 b => some (.byte b)
  | .rxbReceivingOrdOpos b => some (.byte b)
  | .rxbEscapeSeenAnyS450 b => some (.byte b)
  | .rxbEscapeSeenAnyOpos b => some (.byte b)
  | .rxt xfer => some (.transfer xfer)
  | .cherr => some .failure
  | i => if i.isByName then some (.named i) else none

/-- The encoder of frames: the wire bytes of a layout row with fields in the ranges of its table. -/
def encodeFrame (p : Params) : Instr → Option (List Byte)
  | .frameUsb payload => layoutUsb payload
  | .frameS450 ftype dest payload => layoutS450 p ftype dest payload
  | .frameOpos dest payload => layoutOpos p dest payload
  | .ackS450 dest => layoutAckS450 p dest
  | .ackOpos dest => layoutAckOpos p dest
  | _ => none

/-- The contexts in which R162 lets a byte select row `i` (the byte itself apart): for `RXB`, the rows that are R150's
own. Every other operation is selected in every context. -/
def Context.admits (c : Context) : Instr → Bool
  | .rxb _ => c.variant == .usb || !c.isOpen || (c.dlMode && c.variant == .s450)
  | .rxbDl _ => c.variant == .opos && c.isOpen && c.dlMode
  | .rxbIdleStartS450 => c.variant == .s450 && c.isOpen && !c.dlMode && c.ls == .idle
  | .rxbIdleStartOpos => c.variant == .opos && c.isOpen && !c.dlMode && c.ls == .idle
  | .rxbIdleOtherS450 _ => c.variant == .s450 && c.isOpen && !c.dlMode && c.ls == .idle
  | .rxbIdleOtherOpos _ => c.variant == .opos && c.isOpen && !c.dlMode && c.ls == .idle
  | .rxbReceivingStartS450 => c.variant == .s450 && c.isOpen && !c.dlMode && c.ls == .receiving
  | .rxbReceivingStartOpos => c.variant == .opos && c.isOpen && !c.dlMode && c.ls == .receiving
  | .rxbReceivingStuffS450 => c.variant == .s450 && c.isOpen && !c.dlMode && c.ls == .receiving
  | .rxbReceivingStuffOpos => c.variant == .opos && c.isOpen && !c.dlMode && c.ls == .receiving
  | .rxbReceivingEndS450 => c.variant == .s450 && c.isOpen && !c.dlMode && c.ls == .receiving
  | .rxbReceivingEndOpos => c.variant == .opos && c.isOpen && !c.dlMode && c.ls == .receiving
  | .rxbReceivingOrdS450 _ => c.variant == .s450 && c.isOpen && !c.dlMode && c.ls == .receiving
  | .rxbReceivingOrdOpos _ => c.variant == .opos && c.isOpen && !c.dlMode && c.ls == .receiving
  | .rxbEscapeSeenAnyS450 _ => c.variant == .s450 && c.isOpen && !c.dlMode && c.ls == .escapeSeen
  | .rxbEscapeSeenAnyOpos _ => c.variant == .opos && c.isOpen && !c.dlMode && c.ls == .escapeSeen
  | _ => true

/-! ### The opcode table's words -/

/-- The link state in which a byte is the first row of the table whose `match` and `mask` fit it: `1F` is
RXB.IDLE.START.OPOS, `A0` and `04` the STUFF and END rows of `RECEIVING`, any other byte RXB.ESCAPE_SEEN.ANY.OPOS. -/
def tableState (b : Byte) : LinkState :=
  if b = 0x1F then .idle
  else if b = 0xA0 ∨ b = 0x04 then .receiving
  else .escapeSeen

/-- The context the table's byte rows with a `match` stand in: variant OPOS, open, not in download mode, the
delimiters at their defaults (R96, R162). -/
def tableContext (b : Byte) : Context :=
  { params := Config.tableParams Config.params, variant := .opos, isOpen := true, dlMode := false,
    ls := tableState b }

/-- The operation the decoder reads from a word of the opcode table. Only a byte of the serial stream has a numeric
encoding (R94, R96); anything wider is refused. -/
def decodeTableWord (nbits w : Nat) : Option Instr :=
  if nbits = 8 then decode (tableContext (BitVec.ofNat 8 w)) (.byte (BitVec.ofNat 8 w)) else none

end Sys2Proof
end

