-- ==== Sys2Proof/Machine/State.lean ====
section
/-! DEFINITION. The state of one FCB: the seventeen registers of 10_state.md rule R20, the two output streams of R37,
and, named as the model's own, what the host's interface needs beside them. Reset values are R40's. -/

namespace Sys2Proof.Machine

/-- An element of the stream `ev` (R37): `UNSOL(payload)` is its only kind. -/
inductive Event where
  | unsol (payload : List Byte)
  deriving DecidableEq, Repr

/-- Why a byte, frame or transfer was discarded (60_exceptions.md rule R231). -/
inductive DropReason where
  | resync | overflow | short | csum | len | long | addr
  deriving DecidableEq, Repr

/-- How the last operation ended (00_scope.md rule R10): `done` or `drop(reason)`; the third outcome, `refuse`, is no
step and is `Host.Outcome.refused`. -/
inductive StepLabel where
  | done
  | drop (r : DropReason)
  deriving DecidableEq, Repr

/-- What `RDSTAT` shows (42_dispatcher.md rule R190). -/
structure Status where
  isOpen : Bool
  trace : Bool
  dlMode : Bool
  ackSeen : Bool
  rspValid : Bool
  rspLen : Nat
  pend : Bool
  dlAckValid : Bool
  variant : Variant
  cfgAddr : BitVec 5
  deriving DecidableEq, Repr

/-- The value an operation returns (R10, R12); `unit` where it returns none. -/
inductive Result where
  | unit
  | bool (b : Bool)
  | byte (b : Byte)
  | bytes (bs : List Byte)
  | optByte (b : Option Byte)
  | optBytes (bs : Option (List Byte))
  | decoded (r : DecodeResult)
  | status (st : Status)
  deriving DecidableEq, Repr

/-- The state. A register name of the spec stands in each docstring. -/
structure State where
  /-- `ls` (R21). -/
  ls : LinkState
  /-- `body[0 .. blen)` (R22): the valid bytes of the buffer, so that `blen` is the list's length (`State.blen`) and the
  unspecified rest of the buffer is nowhere (R40; DESIGN CHOICE, log entry 3). -/
  body : List Byte
  /-- `csum` (R23). -/
  csum : Byte
  /-- `ack_seen` (R25). -/
  ackSeen : Bool
  /-- `rsp_valid` (R26). -/
  rspValid : Bool
  /-- `pend` (R27). -/
  pend : Bool
  /-- `dl_ack_valid` (R28). -/
  dlAckValid : Bool
  /-- `variant` (R29). -/
  variant : Variant
  /-- `cfg_addr` (R30). -/
  cfgAddr : BitVec 5
  /-- `watch[0 .. 255]` (R31): bit `c` is `watch[c]`. -/
  watch : BitVec 256
  /-- `open` (R32). -/
  isOpen : Bool
  /-- `trace` (R33). -/
  trace : Bool
  /-- `dl_mode` (R34). -/
  dlMode : Bool
  /-- `rsp_buf[0 .. rsp_len)` (R35): the valid bytes of the buffer; `rsp_len` is the list's length (`State.rspLen`;
  DESIGN CHOICE, log entry 3). -/
  rspBuf : List Byte
  /-- `dl_ack` (R36). -/
  dlAck : Byte
  /-- The output stream `tx` (R37), first byte first. -/
  tx : List Byte
  /-- The output stream `ev` (R37), first event first. -/
  ev : List Event
  /-- MODEL'S OWN: the block's assignment of the open parameters (R6), which no operation writes (DESIGN
  CHOICE, log entry 1). -/
  params : Params
  /-- MODEL'S OWN: how the last operation ended (R10; DESIGN CHOICE, log entry 6). -/
  label : StepLabel
  /-- MODEL'S OWN: what the last operation returned (R12; DESIGN CHOICE, log entry 6). -/
  result : Result
  /-- MODEL'S OWN: what the agents present to the block, in the order of the run, next first (R9, R65; DESIGN
  CHOICE, log entry 2). -/
  arrivals : List Arrival
  /-- MODEL'S OWN: how many free values have been drawn (DESIGN CHOICE, log entries 4 and 5). -/
  draws : Nat
  deriving DecidableEq, Repr

/-- There is no fault: the block has no trap and no fault state (60_exceptions.md rule R240, 00_scope.md rule R10), and
every error is a result, a drop, a cleared `open` bit or a refusal. The type has no constructor, so no step can raise
one. Safe. -/
inductive Fault where
  deriving DecidableEq, Repr

/-- Why an operation has no meaning in this state (`refuse`, 00_scope.md rule R10). Each is safe: the machine stops
where the spec gives no step, toward unprovable. -/
inductive Refusal where
  /-- Raised by `exec`'s arm of an instruction that has no meaning yet; no arm does. Safe. -/
  | notModelled (mnemonic : String)
  /-- Raised by RXB in variant `USB`: no byte stream (R150). Safe. -/
  | noByteStream
  /-- Raised by RXT in a serial variant: no transfers (R160). Safe. -/
  | noTransfers
  /-- Raised by CFG while `open = 1` (R211). Safe. -/
  | configFrozen
  /-- Raised by CFG with variant code 3, which is reserved (R211). Safe. -/
  | reservedVariant
  /-- Raised by CFG with an address above 31 (R211). Safe. -/
  | addressTooLarge
  /-- Raised by SENDW while `pend = 1` (R188). Safe. -/
  | exchangeOutstanding
  /-- Raised by DLMODE outside variant `OPOS` (R216). Safe. -/
  | notOpos
  /-- Raised by DLMODE while `open = 0` (R216). Safe. -/
  | channelClosed
  /-- Raised by a row that R162 or the dispatch rules select by a condition (a transition, RXB.DL, ACCUM, a dispatch
  row) where that condition does not hold: there the table does not select the row. `step` never runs into it (DEDUCED, log
  entry 7). Safe. -/
  | rowNotSelected
  /-- Raised by `step` for an arrival that names a row no agent issues (R9; DEDUCED, log entry 8). Safe. -/
  | notIssued
  deriving DecidableEq, Repr

/-- Register `blen` (R22). -/
def State.blen (s : State) : Nat := s.body.length

/-- Register `rsp_len` (R35). -/
def State.rspLen (s : State) : Nat := s.rspBuf.length

/-- The machine right after reset (R40), with empty streams (R261), nothing arriving, and the open parameters open. -/
def State.reset : State where
  ls := .idle
  body := []
  csum := 0
  ackSeen := false
  rspValid := false
  pend := false
  dlAckValid := false
  variant := .usb
  cfgAddr := 0
  watch := 0
  isOpen := false
  trace := false
  dlMode := false
  rspBuf := []
  dlAck := Config.dlAckAfterReset 0
  tx := []
  ev := []
  params := Config.params
  label := .done
  result := .unit
  arrivals := []
  draws := 1

end Sys2Proof.Machine
end

