-- ==== Sys2Proof/Machine/Ops.lean ====
section
/-! DEFINITION. The named operations over the registers and streams, and how an operation ends. There is no exception
to take and none to return from (60_exceptions.md rules R240, R241), so no such operation stands here. -/

namespace Sys2Proof.Machine

/-! ### Register and stream updates (00_scope.md rule R12) -/

/-- `ls <- l`. -/
def State.setLs (s : State) (l : LinkState) : State := { s with ls := l }

/-- `ls <- RECEIVING; blen <- 0; csum <- SEED[v]` (R152, R154). -/
def State.startBody (s : State) (v : Serial) : State :=
  { s with ls := .receiving, body := [], csum := seed s.params v }

/-- `body[blen] <- x; blen <- blen + 1; csum <- (csum + x) mod 256` (R159). -/
def State.pushByte (s : State) (x : Byte) : State :=
  { s with body := s.body ++ [x], csum := s.csum + x }

/-- `ack_seen <- b`. -/
def State.setAckSeen (s : State) (b : Bool) : State := { s with ackSeen := b }

/-- `rsp_buf[0 .. len) <- payload; rsp_len <- len; rsp_valid <- 1` (R185). -/
def State.storeResponse (s : State) (payload : List Byte) : State :=
  { s with rspBuf := payload, rspValid := true }

/-- `rsp_valid <- b`. -/
def State.setRspValid (s : State) (b : Bool) : State := { s with rspValid := b }

/-- `pend <- b`. -/
def State.setPend (s : State) (b : Bool) : State := { s with pend := b }

/-- `open <- b`. -/
def State.setOpen (s : State) (b : Bool) : State := { s with isOpen := b }

/-- `dl_ack <- b; dl_ack_valid <- 1` (R151). -/
def State.captureRaw (s : State) (b : Byte) : State := { s with dlAck := b, dlAckValid := true }

/-- `dl_ack_valid <- b`. -/
def State.setDlAckValid (s : State) (b : Bool) : State := { s with dlAckValid := b }

/-- `dl_mode <- b`. -/
def State.setDlMode (s : State) (b : Bool) : State := { s with dlMode := b }

/-- `trace <- b`. -/
def State.setTrace (s : State) (b : Bool) : State := { s with trace := b }

/-- `variant <- v; cfg_addr <- a; watch <- w` (R211). -/
def State.setConfig (s : State) (v : Variant) (a : BitVec 5) (w : BitVec 256) : State :=
  { s with variant := v, cfgAddr := a, watch := w }

/-- `emit_tx(bs)`. -/
def State.emitTx (s : State) (bs : List Byte) : State := { s with tx := s.tx ++ bs }

/-- `emit_ev(e)`. -/
def State.emitEv (s : State) (e : Event) : State := { s with ev := s.ev ++ [e] }

/-- The session initialisation of a successful `CONNECT` (R212; the rows of R40 marked "also at CONNECT"). -/
def State.openSession (s : State) : State :=
  { s with
    isOpen := true, ls := .idle, body := [], csum := 0, ackSeen := false, rspValid := false, rspBuf := [],
    dlAckValid := false, dlMode := false }

/-- Every register at its reset value (R210, R40). The streams are not cleared; `dl_ack` becomes a new free value. -/
def State.resetRegisters (s : State) : State :=
  { s with
    ls := .idle, body := [], csum := 0, ackSeen := false, rspValid := false, pend := false, dlAckValid := false,
    variant := .usb, cfgAddr := 0, watch := 0, isOpen := false, trace := false, dlMode := false, rspBuf := [],
    dlAck := Config.dlAckAfterReset s.draws, draws := s.draws + 1 }

/-- One free value has been drawn. -/
def State.countDraw (s : State) : State := { s with draws := s.draws + 1 }

/-- The arrivals still to come. -/
def State.setArrivals (s : State) (as : List Arrival) : State := { s with arrivals := as }

/-- The label and result of the operation that ends. -/
def State.report (s : State) (l : StepLabel) (r : Result) : State := { s with label := l, result := r }

/-! ### How an operation ends (00_scope.md rule R10) -/

/-- Outcome `done`, no result. -/
def finish (s : State) : Host.Outcome State Fault Refusal := .next (s.report .done .unit)

/-- Outcome `done` with a result. -/
def finishWith (r : Result) (s : State) : Host.Outcome State Fault Refusal := .next (s.report .done r)

/-- Outcome `drop(r)`. -/
def finishDrop (r : DropReason) (s : State) : Host.Outcome State Fault Refusal := .next (s.report (.drop r) .unit)

/-! ### Views -/

/-- What the next byte's meaning depends on (R24). -/
def State.context (s : State) : Context :=
  { params := s.params, variant := s.variant, isOpen := s.isOpen, dlMode := s.dlMode, ls := s.ls }

/-- What `RDSTAT` shows (R190). -/
def State.status (s : State) : Status :=
  { isOpen := s.isOpen, trace := s.trace, dlMode := s.dlMode, ackSeen := s.ackSeen, rspValid := s.rspValid,
    rspLen := s.rspLen, pend := s.pend, dlAckValid := s.dlAckValid, variant := s.variant, cfgAddr := s.cfgAddr }

/-- The next arrival and the state without it; `none` while nothing arrives. -/
def State.fetch (s : State) : Option (Arrival × State) :=
  match s.arrivals with
  | [] => none
  | a :: rest => some (a, s.setArrivals rest)

end Sys2Proof.Machine
end

