-- ==== Sys2Proof/Machine/Operands.lean ====
section
/-! DEFINITION. The operand forms: the variant code and the Watch List of `CFG`, the address as a byte, and the
conditions under which R162 and the dispatch rules select a row. -/

namespace Sys2Proof.Machine

/-- The variant of a code; code 3 is reserved (10_state.md rule R29). -/
def variantOfCode (c : BitVec 2) : Option Variant :=
  if c = 0 then some .usb
  else if c = 1 then some .s450
  else if c = 2 then some .opos
  else none

/-- The Watch List register that holds exactly the bytes of `w` (R211): bit `c` is 1 when `c` is in `w`. -/
def watchOf : List Byte → BitVec 256
  | [] => 0
  | c :: cs => (1#256 <<< c.toNat) ||| watchOf cs

/-- `cfg_addr` as the byte that travels in `DEST` (30_encoding.md rule R84). -/
def State.addrByte (s : State) : Byte := s.cfgAddr.setWidth 8

/-- Link state `l` of variant `v`, open and not in download mode: where the transitions of `v` and `l` are selected
(41_link_assembler.md rule R162). -/
def State.assembling (s : State) (v : Serial) (l : LinkState) : Bool :=
  s.variant == v.toVariant && s.isOpen && !s.dlMode && s.ls == l

/-- Where a byte is captured raw (R151). -/
def State.capturing (s : State) : Bool :=
  s.variant == .opos && s.isOpen && s.dlMode

end Sys2Proof.Machine
end

