-- ==== Sys2Proof/Machine/Flags.lean ====
section
/-! DEFINITION. What decides the flags: the address filter, the ACK test and the Watch List look-up of a dispatched
frame (42_dispatcher.md rules R180 to R185), and the drop reason of a decode error (60_exceptions.md rule R231). The
running sum, the block's only arithmetic condition, is `sumGood` of Decode.lean. -/

namespace Sys2Proof.Machine

/-- The address filter (R180): the whole `DEST` byte equals `cfg_addr`. -/
def passesFilter (s : State) (f : Frame) : Bool :=
  f.dest == some s.addrByte

/-- `f` is an ACK frame of variant `v`: by its type in `S450` (R181), by its empty payload in `OPOS` (R182). -/
def isAck (s : State) (v : Serial) (f : Frame) : Bool :=
  match v with
  | .s450 => f.ftype == some s.params.s450.ftAck
  | .opos => f.payload.isEmpty

/-- `f`'s command byte, `payload[0]` (30_encoding.md rule R91), is in the Watch List (R184). -/
def watched (s : State) (f : Frame) : Bool :=
  match f.payload with
  | [] => false
  | c :: _ => s.watch.getLsbD c.toNat

/-- `f` reaches `DELIVER`: any `USB` frame (R186); in a serial variant a non-ACK frame for `cfg_addr` (R183). -/
def reachesDeliver (s : State) (f : Frame) : Bool :=
  f.fits s.variant &&
    match s.variant.serial? with
    | none => true
    | some v => passesFilter s f && !isAck s v f

/-- The drop reason of a decode error met in a `LINE` step (R231). `PARSE` and `DEC.USB` answer none of the last three
(`parseBody_err`, `decodeUsb_err`); each is named after the assembler's own event of the same cause. -/
def dropReason : DecodeError → DropReason
  | .short => .short
  | .csum => .csum
  | .len => .len
  | .long => .long
  | .overflow => .overflow
  | .delim => .resync
  | .esc => .resync

end Sys2Proof.Machine
end

