-- ==== Sys2Proof/Machine/Codec.lean ====
section
/-! DEFINITION. The pure functions as host operations (40_codec.md) and the frame and ACK layout rows (30_encoding.md
rules R81 to R83, R89): each returns a value and changes no register and no stream. -/

namespace Sys2Proof.Machine

/-- FRAME.USB (R81). -/
def execFrameUsb (payload : List Byte) (s : State) : Host.Outcome State Fault Refusal :=
  finishWith (.optBytes (layoutUsb payload)) s

/-- FRAME.S450 (R82). -/
def execFrameS450 (ftype dest : Byte) (payload : List Byte) (s : State) : Host.Outcome State Fault Refusal :=
  finishWith (.optBytes (layoutS450 s.params ftype dest payload)) s

/-- FRAME.OPOS (R83). -/
def execFrameOpos (dest : Byte) (payload : List Byte) (s : State) : Host.Outcome State Fault Refusal :=
  finishWith (.optBytes (layoutOpos s.params dest payload)) s

/-- ACK.S450 (R89). -/
def execAckS450 (dest : Byte) (s : State) : Host.Outcome State Fault Refusal :=
  finishWith (.optBytes (layoutAckS450 s.params dest)) s

/-- ACK.OPOS (R89). -/
def execAckOpos (dest : Byte) (s : State) : Host.Outcome State Fault Refusal :=
  finishWith (.optBytes (layoutAckOpos s.params dest)) s

/-- ESC (R120). -/
def execEsc (v : Serial) (b : Byte) (s : State) : Host.Outcome State Fault Refusal :=
  finishWith (.bytes (escByte s.params v b)) s

/-- UNESC (R121). -/
def execUnesc (v : Serial) (e : Byte) (s : State) : Host.Outcome State Fault Refusal :=
  finishWith (.byte (unescByte s.params v e)) s

/-- CHK (R122). -/
def execChk (v : Serial) (hp : List Byte) (s : State) : Host.Outcome State Fault Refusal :=
  finishWith (.byte (checksum s.params v hp)) s

/-- ENC.USB (R124); `ftype` and `dest` are accepted and ignored. -/
def execEncUsb (_ftype _dest : Byte) (data : List Byte) (s : State) : Host.Outcome State Fault Refusal :=
  finishWith (.optBytes (encodeUsb data)) s

/-- ENC.S450 (R125). -/
def execEncS450 (ftype dest : Byte) (data : List Byte) (s : State) : Host.Outcome State Fault Refusal :=
  finishWith (.optBytes (encodeS450 s.params ftype dest data)) s

/-- ENC.OPOS (R126); `ftype` is ignored. -/
def execEncOpos (_ftype dest : Byte) (data : List Byte) (s : State) : Host.Outcome State Fault Refusal :=
  finishWith (.optBytes (encodeOpos s.params dest data)) s

/-- DEC.USB (R127). -/
def execDecUsb (raw : List Byte) (s : State) : Host.Outcome State Fault Refusal :=
  finishWith (.decoded (decodeUsb raw)) s

/-- DEC.S450 (R128). -/
def execDecS450 (raw : List Byte) (s : State) : Host.Outcome State Fault Refusal :=
  finishWith (.decoded (decodeSerial s.params .s450 raw)) s

/-- DEC.OPOS (R129). -/
def execDecOpos (raw : List Byte) (s : State) : Host.Outcome State Fault Refusal :=
  finishWith (.decoded (decodeSerial s.params .opos raw)) s

/-- PARSE (R130). -/
def execParse (v : Serial) (body : List Byte) (s : State) : Host.Outcome State Fault Refusal :=
  finishWith (.decoded (parseBody s.params v body)) s

end Sys2Proof.Machine
end

