-- ==== Sys2Proof/Machine/Exchange.lean ====
section
/-! DEFINITION. The send side and the pending exchange (42_dispatcher.md rules R187 to R190, R193, R196). -/

namespace Sys2Proof.Machine

/-- The body of `SEND` (R187): the state after it and its result. After a failed write the channel has some part of
the frame from its first byte on, of a length the environment draws. -/
def sendFrame (ftype : Byte) (data : List Byte) (wrOk : Bool) (s : State) : Bool × State :=
  if !s.isOpen then (false, s)
  else if s.dlMode then (false, s)
  else
    match encodeFor s.params s.variant ftype s.addrByte data with
    | none => (false, s)
    | some w =>
      if wrOk then (true, (s.setAckSeen false).emitTx w)
      else
        (false, (((s.setAckSeen false).emitTx (w.take (Config.cutLength s.draws))).setOpen false).countDraw)

/-- SEND (R187). -/
def execSend (ftype : Byte) (data : List Byte) (wrOk : Bool) (s : State) : Host.Outcome State Fault Refusal :=
  finishWith (.bool (sendFrame ftype data wrOk s).1) (sendFrame ftype data wrOk s).2

/-- SENDW (R188). -/
def execSendw (ftype : Byte) (data : List Byte) (wrOk : Bool) (s : State) : Host.Outcome State Fault Refusal :=
  if s.pend then .refused .exchangeOutstanding
  else
    match sendFrame ftype data wrOk s with
    | (true, t) => finishWith (.bool true) ((t.setPend true).setRspValid false)
    | (false, t) => finishWith (.bool false) t

/-- TAKE (R189). -/
def execTake (s : State) : Host.Outcome State Fault Refusal :=
  if s.rspValid then finishWith (.optBytes (some s.rspBuf)) ((s.setRspValid false).setPend false)
  else finishWith (.optBytes none) s

/-- RDSTAT (R190). -/
def execRdstat (s : State) : Host.Outcome State Fault Refusal :=
  finishWith (.status s.status) s

/-- DLTAKE (R196). -/
def execDltake (s : State) : Host.Outcome State Fault Refusal :=
  if s.dlAckValid then finishWith (.optByte (some s.dlAck)) (s.setDlAckValid false)
  else finishWith (.optByte none) s

/-- EXPIRE (R193). -/
def execExpire (s : State) : Host.Outcome State Fault Refusal :=
  finish (s.setPend false)

end Sys2Proof.Machine
end

