-- ==== Sys2Proof/Machine/Dispatcher.lean ====
section
/-! DEFINITION. The dispatcher's receive side, `DISPATCH(f)` (42_dispatcher.md rules R180 to R186): first the shared
operations, which the assembler and `RXT` end in, then the meaning of each dispatch row of the table. -/

namespace Sys2Proof.Machine

/-! ### Shared operations -/

/-- `DELIVER` (R184, R185). -/
def deliver (f : Frame) (s : State) : Host.Outcome State Fault Refusal :=
  if watched s f then finish (s.emitEv (.unsol f.payload))
  else finish (s.storeResponse f.payload)

/-- The wire bytes of the automatic acknowledgment of `f` (R183), none where the variant sends none. -/
def autoAckBytes (p : Params) (v : Serial) (f : Frame) : List Byte :=
  match v, f.dest with
  | .s450, some d => (encodeS450 p p.s450.ftAck d []).getD []
  | .opos, some d => if p.opos.autoAck then (encodeOpos p d []).getD [] else []
  | _, none => []

/-- R183: the acknowledgment, whole, then `DELIVER`. -/
def acknowledgeAndDeliver (v : Serial) (f : Frame) (s : State) : Host.Outcome State Fault Refusal :=
  deliver f (s.emitTx (autoAckBytes s.params v f))

/-- `DISPATCH(f)` in a serial variant: R180, R181 or R182, R183, R184 or R185, in order. -/
def dispatchSerial (v : Serial) (f : Frame) (s : State) : Host.Outcome State Fault Refusal :=
  if !passesFilter s f then finishDrop .addr s
  else if isAck s v f then finish (s.setAckSeen true)
  else acknowledgeAndDeliver v f s

/-! ### Meanings of the dispatch rows -/

/-- DISPATCH.ADDR (R180): the filter alone. A frame for another address is dropped; one for `cfg_addr` passes on, and
nothing changes here. -/
def execDispatchAddr (f : Frame) (s : State) : Host.Outcome State Fault Refusal :=
  if s.variant != .usb && f.fits s.variant then
    if passesFilter s f then finish s else finishDrop .addr s
  else .refused .rowNotSelected

/-- DISPATCH.ACK.S450 (R181). -/
def execDispatchAckS450 (f : Frame) (s : State) : Host.Outcome State Fault Refusal :=
  if s.variant == .s450 && f.fits .s450 && passesFilter s f && isAck s .s450 f then finish (s.setAckSeen true)
  else .refused .rowNotSelected

/-- DISPATCH.ACK.OPOS (R182). -/
def execDispatchAckOpos (f : Frame) (s : State) : Host.Outcome State Fault Refusal :=
  if s.variant == .opos && f.fits .opos && passesFilter s f && isAck s .opos f then finish (s.setAckSeen true)
  else .refused .rowNotSelected

/-- DISPATCH.AUTOACK (R183), which continues with `DELIVER`. -/
def execDispatchAutoack (f : Frame) (s : State) : Host.Outcome State Fault Refusal :=
  match s.variant.serial? with
  | some v => if reachesDeliver s f then acknowledgeAndDeliver v f s else .refused .rowNotSelected
  | none => .refused .rowNotSelected

/-- DELIVER.UNSOL (R184). -/
def execDeliverUnsol (f : Frame) (s : State) : Host.Outcome State Fault Refusal :=
  if reachesDeliver s f && watched s f then finish (s.emitEv (.unsol f.payload)) else .refused .rowNotSelected

/-- DELIVER.RSP (R185). -/
def execDeliverRsp (f : Frame) (s : State) : Host.Outcome State Fault Refusal :=
  if reachesDeliver s f && !watched s f then finish (s.storeResponse f.payload) else .refused .rowNotSelected

/-- DISPATCH.USB (R186): `DELIVER` only. -/
def execDispatchUsb (f : Frame) (s : State) : Host.Outcome State Fault Refusal :=
  if s.variant == .usb && f.fits .usb then deliver f s else .refused .rowNotSelected

end Sys2Proof.Machine
end

