-- ==== Sys2Proof/Machine/Assembler.lean ====
section
/-! DEFINITION. The link-state frame assembler (41_link_assembler.md rules R152 to R159): the shared step of each
transition, then the meaning of each transition row, once for `S450` and once for `OPOS`, and of ACCUM. -/

namespace Sys2Proof.Machine

/-! ### Shared operations -/

/-- `ACCUM(x)` (R159), leaving `ls` at `l` unless it overflows (R157, R158). -/
def accumulate (v : Serial) (x : Byte) (l : LinkState) (s : State) : Host.Outcome State Fault Refusal :=
  if s.blen = bodyMax v then finishDrop .overflow (s.setLs .idle)
  else finish ((s.pushByte x).setLs l)

/-- R152. -/
def beginFrame (v : Serial) (s : State) : Host.Outcome State Fault Refusal :=
  finish (s.startBody v)

/-- R154: `drop(RESYNC)` when a body was in progress. -/
def restartFrame (v : Serial) (s : State) : Host.Outcome State Fault Refusal :=
  if s.blen > 0 then finishDrop .resync (s.startBody v) else finish (s.startBody v)

/-- R155. -/
def seeEscape (s : State) : Host.Outcome State Fault Refusal :=
  finish (s.setLs .escapeSeen)

/-- R156: `PARSE`, then a drop or `DISPATCH`, in this same step. -/
def endFrame (v : Serial) (s : State) : Host.Outcome State Fault Refusal :=
  match parseBody s.params v s.body with
  | .err e => finishDrop (dropReason e) (s.setLs .idle)
  | .ok f => dispatchSerial v f (s.setLs .idle)

/-- R157. -/
def ordinaryByte (v : Serial) (b : Byte) (s : State) : Host.Outcome State Fault Refusal :=
  accumulate v b .receiving s

/-- R158. -/
def escapedByte (v : Serial) (b : Byte) (s : State) : Host.Outcome State Fault Refusal :=
  accumulate v (unescByte s.params v b) .receiving s

/-! ### Meanings of the transition rows -/

/-- RXB.IDLE.START.S450 (R152). -/
def execRxbIdleStartS450 (s : State) : Host.Outcome State Fault Refusal :=
  if s.assembling .s450 .idle then beginFrame .s450 s else .refused .rowNotSelected

/-- RXB.IDLE.START.OPOS (R152). -/
def execRxbIdleStartOpos (s : State) : Host.Outcome State Fault Refusal :=
  if s.assembling .opos .idle then beginFrame .opos s else .refused .rowNotSelected

/-- RXB.IDLE.OTHER.S450 (R153): the byte is discarded, outcome `done`. -/
def execRxbIdleOtherS450 (b : Byte) (s : State) : Host.Outcome State Fault Refusal :=
  if s.assembling .s450 .idle && classOf s.params .s450 b != .start then finish s else .refused .rowNotSelected

/-- RXB.IDLE.OTHER.OPOS (R153). -/
def execRxbIdleOtherOpos (b : Byte) (s : State) : Host.Outcome State Fault Refusal :=
  if s.assembling .opos .idle && classOf s.params .opos b != .start then finish s else .refused .rowNotSelected

/-- RXB.RECEIVING.START.S450 (R154). -/
def execRxbReceivingStartS450 (s : State) : Host.Outcome State Fault Refusal :=
  if s.assembling .s450 .receiving then restartFrame .s450 s else .refused .rowNotSelected

/-- RXB.RECEIVING.START.OPOS (R154). -/
def execRxbReceivingStartOpos (s : State) : Host.Outcome State Fault Refusal :=
  if s.assembling .opos .receiving then restartFrame .opos s else .refused .rowNotSelected

/-- RXB.RECEIVING.STUFF.S450 (R155). -/
def execRxbReceivingStuffS450 (s : State) : Host.Outcome State Fault Refusal :=
  if s.assembling .s450 .receiving then seeEscape s else .refused .rowNotSelected

/-- RXB.RECEIVING.STUFF.OPOS (R155). -/
def execRxbReceivingStuffOpos (s : State) : Host.Outcome State Fault Refusal :=
  if s.assembling .opos .receiving then seeEscape s else .refused .rowNotSelected

/-- RXB.RECEIVING.END.S450 (R156). -/
def execRxbReceivingEndS450 (s : State) : Host.Outcome State Fault Refusal :=
  if s.assembling .s450 .receiving then endFrame .s450 s else .refused .rowNotSelected

/-- RXB.RECEIVING.END.OPOS (R156). -/
def execRxbReceivingEndOpos (s : State) : Host.Outcome State Fault Refusal :=
  if s.assembling .opos .receiving then endFrame .opos s else .refused .rowNotSelected

/-- RXB.RECEIVING.ORD.S450 (R157). -/
def execRxbReceivingOrdS450 (b : Byte) (s : State) : Host.Outcome State Fault Refusal :=
  if s.assembling .s450 .receiving && classOf s.params .s450 b == .ord then ordinaryByte .s450 b s
  else .refused .rowNotSelected

/-- RXB.RECEIVING.ORD.OPOS (R157). -/
def execRxbReceivingOrdOpos (b : Byte) (s : State) : Host.Outcome State Fault Refusal :=
  if s.assembling .opos .receiving && classOf s.params .opos b == .ord then ordinaryByte .opos b s
  else .refused .rowNotSelected

/-- RXB.ESCAPE_SEEN.ANY.S450 (R158). -/
def execRxbEscapeSeenAnyS450 (b : Byte) (s : State) : Host.Outcome State Fault Refusal :=
  if s.assembling .s450 .escapeSeen then escapedByte .s450 b s else .refused .rowNotSelected

/-- RXB.ESCAPE_SEEN.ANY.OPOS (R158). -/
def execRxbEscapeSeenAnyOpos (b : Byte) (s : State) : Host.Outcome State Fault Refusal :=
  if s.assembling .opos .escapeSeen then escapedByte .opos b s else .refused .rowNotSelected

/-- ACCUM (R159), the sub-step itself: `ls` changes only on overflow. It needs a serial variant, for `BODY_MAX`. -/
def execAccum (x : Byte) (s : State) : Host.Outcome State Fault Refusal :=
  match s.variant.serial? with
  | some v => accumulate v x s.ls s
  | none => .refused .rowNotSelected

end Sys2Proof.Machine
end

