-- ==== Sys2Proof/Machine/Line.lean ====
section
/-! DEFINITION. The operations of the `LINE` agent: `RXB` with its gating and its selection of a transition
(41_link_assembler.md rules R150, R151, R162), `RXT` (R160) and `CHERR` (R161). -/

namespace Sys2Proof.Machine

/-- The transition of `(ls, class_v(b))` (R162, last seven rows). -/
def transition (v : Serial) (b : Byte) (s : State) : Host.Outcome State Fault Refusal :=
  match s.ls, classOf s.params v b with
  | .idle, .start => beginFrame v s
  | .idle, .stop => finish s
  | .idle, .stuff => finish s
  | .idle, .ord => finish s
  | .receiving, .start => restartFrame v s
  | .receiving, .stuff => seeEscape s
  | .receiving, .stop => endFrame v s
  | .receiving, .ord => ordinaryByte v b s
  | .escapeSeen, _ => escapedByte v b s

/-- RXB (R150): the tests in the rule's order, then the selected rule. -/
def execRxb (b : Byte) (s : State) : Host.Outcome State Fault Refusal :=
  match s.variant.serial? with
  | none => .refused .noByteStream
  | some v =>
    if !s.isOpen then finish s
    else if s.dlMode then finish (s.captureRaw b)
    else transition v b s

/-- RXB.DL (R151). -/
def execRxbDl (b : Byte) (s : State) : Host.Outcome State Fault Refusal :=
  if s.capturing then finish (s.captureRaw b) else .refused .rowNotSelected

/-- RXT (R160). -/
def execRxt (xfer : List Byte) (s : State) : Host.Outcome State Fault Refusal :=
  if s.variant != .usb then .refused .noTransfers
  else if !s.isOpen then finish s
  else if xfer.isEmpty then finish (s.setOpen false)
  else
    match decodeUsb xfer with
    | .err e => finishDrop (dropReason e) s
    | .ok f => deliver f s

/-- CHERR (R161). -/
def execCherr (s : State) : Host.Outcome State Fault Refusal :=
  if s.isOpen then finish (s.setOpen false) else finish s

end Sys2Proof.Machine
end

