-- ==== Sys2Proof/Machine/Session.lean ====
section
/-! DEFINITION. Session control (43_session_control.md rules R210 to R216). -/

namespace Sys2Proof.Machine

/-- RESET (R210). -/
def execReset (s : State) : Host.Outcome State Fault Refusal :=
  finish s.resetRegisters

/-- CFG (R211): the three refusals in the rule's order, then the whole configuration. -/
def execCfg (variant : BitVec 2) (addr : Nat) (watchSet : List Byte) (s : State) :
    Host.Outcome State Fault Refusal :=
  if s.isOpen then .refused .configFrozen
  else
    match variantOfCode variant with
    | none => .refused .reservedVariant
    | some v =>
      if addr > 31 then .refused .addressTooLarge
      else finish (s.setConfig v (BitVec.ofNat 5 addr) (watchOf watchSet))

/-- CONNECT (R212). -/
def execConnect (chanOk : Bool) (s : State) : Host.Outcome State Fault Refusal :=
  if s.isOpen then finishWith (.bool false) s
  else if !chanOk then finishWith (.bool false) s
  else finishWith (.bool true) s.openSession

/-- DISCONNECT (R213). -/
def execDisconnect (s : State) : Host.Outcome State Fault Refusal :=
  finish (s.setOpen false)

/-- SETTRACE (R214). -/
def execSettrace (e : Bool) (s : State) : Host.Outcome State Fault Refusal :=
  finish (s.setTrace e)

/-- ISSERIAL (R215). -/
def execIsserial (s : State) : Host.Outcome State Fault Refusal :=
  finishWith (.bool (s.variant != .usb)) s

/-- DLMODE (R216). -/
def execDlmode (on : Bool) (s : State) : Host.Outcome State Fault Refusal :=
  if s.variant != .opos then .refused .notOpos
  else if !s.isOpen then .refused .channelClosed
  else finish ((s.setDlMode on).setDlAckValid false)

end Sys2Proof.Machine
end

