-- ==== Sys2Proof/Machine/Dispatch.lean ====
section
/-! DEFINITION. The one dispatch: each operation of the table to its meaning. -/

namespace Sys2Proof.Machine

def exec (i : Instr) (s : State) : Host.Outcome State Fault Refusal :=
  match i with
  | .reset => Sys2Proof.Machine.execReset s
  | .cfg variant addr watchSet => Sys2Proof.Machine.execCfg variant addr watchSet s
  | .connect chanOk => Sys2Proof.Machine.execConnect chanOk s
  | .disconnect => Sys2Proof.Machine.execDisconnect s
  | .settrace e => Sys2Proof.Machine.execSettrace e s
  | .isserial => Sys2Proof.Machine.execIsserial s
  | .dlmode on => Sys2Proof.Machine.execDlmode on s
  | .send ftype data wrOk => Sys2Proof.Machine.execSend ftype data wrOk s
  | .sendw ftype data wrOk => Sys2Proof.Machine.execSendw ftype data wrOk s
  | .take => Sys2Proof.Machine.execTake s
  | .rdstat => Sys2Proof.Machine.execRdstat s
  | .dltake => Sys2Proof.Machine.execDltake s
  | .expire => Sys2Proof.Machine.execExpire s
  | .rxb b => Sys2Proof.Machine.execRxb b s
  | .rxbDl b => Sys2Proof.Machine.execRxbDl b s
  | .rxbIdleStartS450 => Sys2Proof.Machine.execRxbIdleStartS450 s
  | .rxbIdleStartOpos => Sys2Proof.Machine.execRxbIdleStartOpos s
  | .rxbIdleOtherS450 b => Sys2Proof.Machine.execRxbIdleOtherS450 b s
  | .rxbIdleOtherOpos b => Sys2Proof.Machine.execRxbIdleOtherOpos b s
  | .rxbReceivingStartS450 => Sys2Proof.Machine.execRxbReceivingStartS450 s
  | .rxbReceivingStartOpos => Sys2Proof.Machine.execRxbReceivingStartOpos s
  | .rxbReceivingStuffS450 => Sys2Proof.Machine.execRxbReceivingStuffS450 s
  | .rxbReceivingStuffOpos => Sys2Proof.Machine.execRxbReceivingStuffOpos s
  | .rxbReceivingEndS450 => Sys2Proof.Machine.execRxbReceivingEndS450 s
  | .rxbReceivingEndOpos => Sys2Proof.Machine.execRxbReceivingEndOpos s
  | .rxbReceivingOrdS450 b => Sys2Proof.Machine.execRxbReceivingOrdS450 b s
  | .rxbReceivingOrdOpos b => Sys2Proof.Machine.execRxbReceivingOrdOpos b s
  | .rxbEscapeSeenAnyS450 b => Sys2Proof.Machine.execRxbEscapeSeenAnyS450 b s
  | .rxbEscapeSeenAnyOpos b => Sys2Proof.Machine.execRxbEscapeSeenAnyOpos b s
  | .accum x => Sys2Proof.Machine.execAccum x s
  | .rxt xfer => Sys2Proof.Machine.execRxt xfer s
  | .cherr => Sys2Proof.Machine.execCherr s
  | .dispatchAddr f => Sys2Proof.Machine.execDispatchAddr f s
  | .dispatchAckS450 f => Sys2Proof.Machine.execDispatchAckS450 f s
  | .dispatchAckOpos f => Sys2Proof.Machine.execDispatchAckOpos f s
  | .dispatchAutoack f => Sys2Proof.Machine.execDispatchAutoack f s
  | .deliverUnsol f => Sys2Proof.Machine.execDeliverUnsol f s
  | .deliverRsp f => Sys2Proof.Machine.execDeliverRsp f s
  | .dispatchUsb f => Sys2Proof.Machine.execDispatchUsb f s
  | .frameUsb payload => Sys2Proof.Machine.execFrameUsb payload s
  | .frameS450 ftype dest payload => Sys2Proof.Machine.execFrameS450 ftype dest payload s
  | .frameOpos dest payload => Sys2Proof.Machine.execFrameOpos dest payload s
  | .ackS450 dest => Sys2Proof.Machine.execAckS450 dest s
  | .ackOpos dest => Sys2Proof.Machine.execAckOpos dest s
  | .esc v b => Sys2Proof.Machine.execEsc v b s
  | .unesc v e => Sys2Proof.Machine.execUnesc v e s
  | .chk v hp => Sys2Proof.Machine.execChk v hp s
  | .encUsb ftype dest data => Sys2Proof.Machine.execEncUsb ftype dest data s
  | .encS450 ftype dest data => Sys2Proof.Machine.execEncS450 ftype dest data s
  | .encOpos ftype dest data => Sys2Proof.Machine.execEncOpos ftype dest data s
  | .decUsb raw => Sys2Proof.Machine.execDecUsb raw s
  | .decS450 raw => Sys2Proof.Machine.execDecS450 raw s
  | .decOpos raw => Sys2Proof.Machine.execDecOpos raw s
  | .parse v body => Sys2Proof.Machine.execParse v body s

end Sys2Proof.Machine
end

