-- ==== Sys2Proof/Machine/Step.lean ====
section
/-! DEFINITION. One step of the machine: the next arrival is decoded in the present context and its operation is
executed, whole (20_memory.md rule R64). The block fetches nothing (10_state.md rule R24); what arrives is the agents'
doing and stands in `State.arrivals`. -/

namespace Sys2Proof.Machine

/-- One step. With nothing arriving the block waits and nothing changes (DESIGN CHOICE, log entry 2). -/
def step (s : State) : Host.Outcome State Fault Refusal :=
  match s.fetch with
  | none => .next s
  | some (a, t) =>
    match decode s.context a with
    | some i => exec i t
    | none => .refused .notIssued

/-- `s` with the operation of a word of the opcode table arriving next. The table's words are bytes of the OPOS stream
(R96), so the block is put where such a byte selects its row: variant OPOS, open, not in download mode, the row's link
state, the delimiters at the defaults of R6 (DESIGN CHOICE, log entry 10). A word of another width has no arrival. -/
def State.withFetchWord (s : State) (nbits w : Nat) : State :=
  if nbits = 8 then
    { s with
      params := Config.tableParams s.params, variant := .opos, isOpen := true, dlMode := false,
      ls := tableState (BitVec.ofNat 8 w), arrivals := .byte (BitVec.ofNat 8 w) :: s.arrivals }
  else s

end Sys2Proof.Machine
end

