-- ==== Sys2Proof/Safety.lean ====
section
/-! DEFINITION. What claims about the block are stated in: the invariant of a session, the link states in which a
transition is selected, and small views of an outcome. -/

namespace Sys2Proof.Machine

/-! ### The invariant

R22 and R23 state their bounds of every state; read so, both fail where `CFG` changes the variant of a closed session
whose assembler was left mid-frame (DEDUCED, log entry 11). They hold, as stated here, while the session is open. -/

/-- `BODY_MAX` of a variant; the `USB` variant stores no body byte (R160). -/
def bodyRoom : Variant → Nat
  | .usb => 0
  | .s450 => bodyMax .s450
  | .opos => bodyMax .opos

/-- `SEED` of a variant; `csum` stays 0 in `USB` (R160, R212). -/
def seedFor (p : Params) : Variant → Byte
  | .usb => 0
  | .s450 => seed p .s450
  | .opos => seed p .opos

/-- R22: the body never outgrows `BODY_MAX`. -/
abbrev State.BodyFits (s : State) : Prop :=
  s.isOpen = true → s.blen ≤ bodyRoom s.variant

/-- R23: while a frame is being assembled `csum` is the seed plus the sum of the body. -/
abbrev State.SumTracks (s : State) : Prop :=
  s.isOpen = true → s.ls ≠ .idle → s.csum = seedFor s.params s.variant + byteSum s.body

/-- R162, R216: an open session in download mode is an OPOS session. -/
abbrev State.DownloadIsOpos (s : State) : Prop :=
  s.isOpen = true → s.dlMode = true → s.variant = .opos

/-- R160, R25: an open USB session has an idle assembler and has seen no ACK. -/
abbrev State.UsbQuiet (s : State) : Prop :=
  s.isOpen = true → s.variant = .usb → s.ls = .idle ∧ s.csum = 0 ∧ s.ackSeen = false

/-- R35: a response has at most 256 bytes, and at most `PAYLOAD_MAX` of the open session's variant. -/
abbrev State.ResponseFits (s : State) : Prop :=
  s.rspLen ≤ 256 ∧ (s.isOpen = true → s.rspLen ≤ payloadMax s.variant)

/-- The invariant that every step keeps. -/
abbrev State.Inv (s : State) : Prop :=
  s.BodyFits ∧ s.SumTracks ∧ s.DownloadIsOpos ∧ s.UsbQuiet ∧ s.ResponseFits

/-! ### Selection -/

/-- Where the transitions of variant `v` and link state `l` are selected (R162). -/
abbrev State.AssemblingIn (s : State) (v : Serial) (l : LinkState) : Prop :=
  s.variant = v.toVariant ∧ s.isOpen = true ∧ s.dlMode = false ∧ s.ls = l

/-- RXB.IDLE.START of a variant. -/
def rowIdleStart : Serial → Instr
  | .s450 => .rxbIdleStartS450
  | .opos => .rxbIdleStartOpos

/-- RXB.IDLE.OTHER of a variant. -/
def rowIdleOther (b : Byte) : Serial → Instr
  | .s450 => .rxbIdleOtherS450 b
  | .opos => .rxbIdleOtherOpos b

/-- RXB.RECEIVING.START of a variant. -/
def rowReceivingStart : Serial → Instr
  | .s450 => .rxbReceivingStartS450
  | .opos => .rxbReceivingStartOpos

/-- RXB.RECEIVING.STUFF of a variant. -/
def rowReceivingStuff : Serial → Instr
  | .s450 => .rxbReceivingStuffS450
  | .opos => .rxbReceivingStuffOpos

/-- RXB.RECEIVING.END of a variant. -/
def rowReceivingEnd : Serial → Instr
  | .s450 => .rxbReceivingEndS450
  | .opos => .rxbReceivingEndOpos

/-- RXB.RECEIVING.ORD of a variant. -/
def rowReceivingOrd (b : Byte) : Serial → Instr
  | .s450 => .rxbReceivingOrdS450 b
  | .opos => .rxbReceivingOrdOpos b

/-- RXB.ESCAPE_SEEN.ANY of a variant. -/
def rowEscapeSeenAny (b : Byte) : Serial → Instr
  | .s450 => .rxbEscapeSeenAnyS450 b
  | .opos => .rxbEscapeSeenAnyOpos b

/-! ### Views of an outcome -/

/-- The outcome with its next state, if it has one, changed by `g`. -/
def mapNext (g : State → State) : Host.Outcome State Fault Refusal → Host.Outcome State Fault Refusal
  | .next s => .next (g s)
  | .fault r => .fault r
  | .refused r => .refused r

/-- `k` steps, stopping at the first refusal: `Host.Core.run` of this machine. -/
def runSteps : Nat → State → Host.Outcome State Fault Refusal
  | 0, s => .next s
  | k + 1, s =>
    match step s with
    | .next t => runSteps k t
    | .fault r => .fault r
    | .refused r => .refused r

/-- The assembler registers replaced. -/
def State.withAssembler (s : State) (l : LinkState) (body : List Byte) (c : Byte) : State :=
  { s with ls := l, body := body, csum := c }

/-- `t` is `s` but for the assembler registers, the report of the last operation and the arrivals: nothing the host or
the channel can see has changed. -/
abbrev SameButAssembler (s t : State) : Prop :=
  t = { s with ls := t.ls, body := t.body, csum := t.csum, label := t.label, result := t.result,
               arrivals := t.arrivals }

end Sys2Proof.Machine
end

