-- ==== Sys2Proof/Certificates/Slice0/Obligations.lean ====
section
/-! DEFINITION. The statements for the provers, in the order of the spec's files. A statement of an operation's effect
gives the whole next state as a record update of the state before, so it is at once the operation's result, its frame
and its completion. -/

open Sys2Proof Sys2Proof.Machine Host.Outcome

/-! ### Reset and session control (10_state.md, 43_session_control.md) -/

/-- 43_session_control.md, RESET, with the reset values of 10_state.md section 7 (the spec's own decision D30): legal in
every state, every register to its reset value, the streams kept, `dl_ack` a free value (log entry 4). -/
def Obligations.ResetOperationSetsEveryRegister : Prop :=
  ∀ s : State, exec .reset s =
    next { s with
      ls := .idle, body := [], csum := 0, ackSeen := false, rspValid := false, rspBuf := [], pend := false,
      dlAckValid := false, variant := .usb, cfgAddr := 0, watch := 0, isOpen := false, trace := false,
      dlMode := false, dlAck := Config.dlAckAfterReset s.draws, draws := s.draws + 1,
      label := .done, result := .unit }

/-- 10_state.md section 7 (the spec's own decision D30): the state a run starts from, and that no byte of a length or a
flag set is left in it. -/
def Obligations.ResetStateIsClosedIdleAndUnconfigured : Prop :=
  let s := State.reset
  s.ls = .idle ∧ s.blen = 0 ∧ s.csum = 0 ∧ s.ackSeen = false ∧ s.rspValid = false ∧ s.rspLen = 0 ∧ s.pend = false ∧
    s.dlAckValid = false ∧ s.variant.code = 0 ∧ s.cfgAddr = 0 ∧ (∀ c : Byte, s.watch.getLsbD c.toNat = false) ∧
    s.isOpen = false ∧ s.trace = false ∧ s.dlMode = false ∧ s.tx = [] ∧ s.ev = []

/-- 43_session_control.md, CFG on a closed session (the spec's own decision D31): the whole configuration is replaced,
and nothing else changes. -/
def Obligations.CfgReplacesTheWholeConfiguration : Prop :=
  ∀ (s : State) (v : Variant) (addr : Nat) (w : List Byte), s.isOpen = false → addr ≤ 31 →
    ∃ (a : BitVec 5) (m : BitVec 256),
      exec (.cfg v.code addr w) s =
        next { s with variant := v, cfgAddr := a, watch := m, label := .done, result := .unit } ∧
      a.toNat = addr ∧ ∀ c : Byte, m.getLsbD c.toNat = true ↔ c ∈ w

/-- 43_session_control.md, CFG (the spec's own decision D31): refused exactly while open, for the reserved variant code
3, and for an address above 31. -/
def Obligations.CfgIsRefusedExactlyWhenFrozenOrOutOfRange : Prop :=
  ∀ (s : State) (code : BitVec 2) (addr : Nat) (w : List Byte),
    (∃ r, exec (.cfg code addr w) s = refused r) ↔ (s.isOpen = true ∨ code = 3 ∨ addr > 31)

/-- 43_session_control.md, CONNECT (the spec's own decision D29): the session opens clean, keeping `pend`, the
configuration and `trace`; on an open session, or where the channel cannot be opened, it answers false and nothing
changes. -/
def Obligations.ConnectOpensACleanSessionOrAnswersFalse : Prop :=
  ∀ (s : State) (ok : Bool), exec (.connect ok) s =
    if s.isOpen = false ∧ ok = true then
      next { s with
        isOpen := true, ls := .idle, body := [], csum := 0, ackSeen := false, rspValid := false, rspBuf := [],
        dlAckValid := false, dlMode := false, label := .done, result := .bool true }
    else next { s with label := .done, result := .bool false }

/-- R213: DISCONNECT clears `open` and nothing else, and is idempotent; after it every byte and every transfer of the
variant's own channel is without effect, and a stored response can still be taken. -/
def Obligations.DisconnectClearsOpenOnlyAndIsIdempotent : Prop :=
  ∀ s : State, exec .disconnect s = next { s with isOpen := false, label := .done, result := .unit } ∧
    ∀ t, exec .disconnect s = next t →
      exec .disconnect t = next t ∧
      (∀ b, t.variant ≠ .usb → exec (.rxb b) t = next t) ∧
      (∀ xs, t.variant = .usb → exec (.rxt xs) t = next t) ∧
      (t.rspValid = true → ∃ u, exec .take t = next u ∧ u.result = .optBytes (some s.rspBuf))

/-- R214: SETTRACE stores the bit and nothing else, open or closed; no operation but RDSTAT reads it: every other
operation ends the same whatever `trace` holds (RESET and SETTRACE overwrite it), and RDSTAT differs in that bit. -/
def Obligations.TraceBitIsStoredAndHasNoProtocolEffect : Prop :=
  (∀ (s : State) (e : Bool), exec (.settrace e) s = next { s with trace := e, label := .done, result := .unit }) ∧
  (∀ (i : Instr) (s : State) (e : Bool), i ≠ .rdstat → i ≠ .reset → (∀ x, i ≠ .settrace x) →
    exec i { s with trace := e } = mapNext (fun t => { t with trace := e }) (exec i s)) ∧
  (∀ (i : Instr) (s : State) (e : Bool), (i = .reset ∨ ∃ x, i = .settrace x) →
    exec i { s with trace := e } = exec i s) ∧
  (∀ (s : State) (e : Bool), exec .rdstat { s with trace := e } =
    next { s with trace := e, label := .done, result := .status { s.status with trace := e } })

/-- 43_session_control.md, ISSERIAL (the spec's own decision D31): true for the serial variants, false for `USB`; no
register changes. -/
def Obligations.IsserialIsTrueOfTheSerialVariantsOnly : Prop :=
  ∀ s : State, ∃ b, exec .isserial s = next { s with label := .done, result := .bool b } ∧
    (b = true ↔ s.variant = .s450 ∨ s.variant = .opos)

/-- 43_session_control.md, DLMODE (the spec's own decision D28): the mode and `dl_ack_valid` change, nothing else;
refused outside OPOS and while closed. -/
def Obligations.DlmodeSwitchesTheModeOfAnOpenOposSession : Prop :=
  ∀ (s : State) (on : Bool),
    (s.variant = .opos → s.isOpen = true →
      exec (.dlmode on) s =
        next { s with dlMode := on, dlAckValid := false, label := .done, result := .unit }) ∧
    (s.variant ≠ .opos → exec (.dlmode on) s = refused .notOpos) ∧
    (s.variant = .opos → s.isOpen = false → exec (.dlmode on) s = refused .channelClosed)

/-! ### The send side and the pending exchange (42_dispatcher.md section 2) -/

/-- 42_dispatcher.md, SEND (the spec's own decisions D26 and D27): false with nothing changed on a closed session, in
download mode, or for a frame that cannot be encoded; else the frame for `cfg_addr` is written and `ack_seen` cleared;
a failed write leaves some first part of the frame, of a free length (log entry 5), and closes the session. -/
def Obligations.SendWritesTheFrameOrAnswersFalse : Prop :=
  ∀ (s : State) (ft : Byte) (data : List Byte) (ok : Bool),
    ((s.isOpen = false ∨ s.dlMode = true ∨
        encodeFor s.params s.variant ft (s.cfgAddr.setWidth 8) data = none) →
      exec (.send ft data ok) s = next { s with label := .done, result := .bool false }) ∧
    (∀ w, s.isOpen = true → s.dlMode = false →
      encodeFor s.params s.variant ft (s.cfgAddr.setWidth 8) data = some w →
      (ok = true → exec (.send ft data ok) s =
        next { s with ackSeen := false, tx := s.tx ++ w, label := .done, result := .bool true }) ∧
      (ok = false → ∃ part, part <+: w ∧ exec (.send ft data ok) s =
        next { s with ackSeen := false, tx := s.tx ++ part, isOpen := false, draws := s.draws + 1,
                      label := .done, result := .bool false }))

/-- 42_dispatcher.md, SENDW (the spec's own decisions D25 and D26): refused while an exchange is outstanding; otherwise
it does and answers what SEND does, and only where that is true it creates the exchange and clears `rsp_valid`. -/
def Obligations.SendwCreatesAnExchangeWhenSendSucceeds : Prop :=
  ∀ (s : State) (ft : Byte) (data : List Byte) (ok : Bool),
    (s.pend = true → exec (.sendw ft data ok) s = refused .exchangeOutstanding) ∧
    (s.pend = false → ∃ t, exec (.send ft data ok) s = next t ∧
      ((t.result = .bool true ∧
          exec (.sendw ft data ok) s = next { t with pend := true, rspValid := false }) ∨
        (t.result = .bool false ∧ exec (.sendw ft data ok) s = next t)))

/-- 42_dispatcher.md, TAKE (the spec's own decision D23): the response is handed over whole and the exchange destroyed,
open or closed; with none stored it answers none and nothing changes. -/
def Obligations.TakeHandsOverTheStoredResponse : Prop :=
  ∀ s : State, exec .take s =
    if s.rspValid = true then
      next { s with rspValid := false, pend := false, label := .done, result := .optBytes (some s.rspBuf) }
    else next { s with label := .done, result := .optBytes none }

/-- 42_dispatcher.md, RDSTAT and DLTAKE (the spec's own decisions D23 and D28): the status changes no register and shows
none of the assembler's; the raw byte is handed over once (that `dl_ack` keeps it is the model's reading, log entry 4). -/
def Obligations.RdstatAndDltakeReadOut : Prop :=
  (∀ s : State, exec .rdstat s =
    next { s with
      label := .done,
      result := .status
        { isOpen := s.isOpen, trace := s.trace, dlMode := s.dlMode, ackSeen := s.ackSeen, rspValid := s.rspValid,
          rspLen := s.rspBuf.length, pend := s.pend, dlAckValid := s.dlAckValid, variant := s.variant,
          cfgAddr := s.cfgAddr } }) ∧
  (∀ s : State, exec .dltake s =
    if s.dlAckValid = true then
      next { s with dlAckValid := false, label := .done, result := .optByte (some s.dlAck) }
    else next { s with label := .done, result := .optByte none })

/-- R193: EXPIRE clears `pend` and nothing else, in every state; a stored response stays. -/
def Obligations.ExpireClearsPendOnly : Prop :=
  ∀ s : State, exec .expire s = next { s with pend := false, label := .done, result := .unit } ∧
    (s.pend = false → s.label = .done → s.result = .unit → exec .expire s = next s)

/-- 42_dispatcher.md, "at most one pending exchange" (derived there): an exchange is created by a SENDW that answers true
and by nothing else, never while one is alive, and destroyed by TAKE, EXPIRE or RESET and by nothing else. -/
def Obligations.ExchangeIsCreatedBySendwAndDestroyedByTakeExpireOrReset : Prop :=
  ∀ (i : Instr) (s t : State), exec i s = next t →
    (s.pend = false → t.pend = true → t.result = .bool true ∧ ∃ ft data ok, i = .sendw ft data ok) ∧
    (s.pend = true → t.pend = false → i = .reset ∨ i = .expire ∨ (i = .take ∧ s.rspValid = true))

/-! ### The line: RXB (41_link_assembler.md) -/

/-- R162, R150: a received byte does what the row that the summary table selects does, in every state; for each of the
rows: the `USB` refusal, the byte lost while closed, the raw capture, and one transition for each link state and class.
The corner outside the table (download mode in `S450`) is left out by the premise. -/
def Obligations.ReceivedByteRunsTheRowOfTheSummaryTable : Prop :=
  ∀ (s : State) (b : Byte), (s.isOpen = true → s.dlMode = true → s.variant ≠ .s450) →
    (s.variant = .usb → exec (.rxb b) s = refused .noByteStream) ∧
    (s.variant ≠ .usb → s.isOpen = false → exec (.rxb b) s = next { s with label := .done, result := .unit }) ∧
    (s.variant = .opos → s.isOpen = true → s.dlMode = true →
      exec (.rxb b) s = exec (.rxbDl b) s ∧
      exec (.rxb b) s = next { s with dlAck := b, dlAckValid := true, label := .done, result := .unit }) ∧
    (∀ v, s.AssemblingIn v .idle →
      (b = startOf s.params v → exec (.rxb b) s = exec (rowIdleStart v) s) ∧
      (b ≠ startOf s.params v → exec (.rxb b) s = exec (rowIdleOther b v) s)) ∧
    (∀ v, s.AssemblingIn v .receiving →
      (b = startOf s.params v → exec (.rxb b) s = exec (rowReceivingStart v) s) ∧
      (b = stuffOf s.params v → exec (.rxb b) s = exec (rowReceivingStuff v) s) ∧
      (b = stopOf s.params v → exec (.rxb b) s = exec (rowReceivingEnd v) s) ∧
      (isSentinel s.params v b = false → exec (.rxb b) s = exec (rowReceivingOrd b v) s)) ∧
    (∀ v, s.AssemblingIn v .escapeSeen → exec (.rxb b) s = exec (rowEscapeSeenAny b v) s)

/-- R152: in `IDLE` a start delimiter begins a frame with an empty body and the variant's seed. -/
def Obligations.StartDelimiterInIdleBeginsAFrame : Prop :=
  ∀ (v : Serial) (s : State), s.AssemblingIn v .idle →
    exec (rowIdleStart v) s =
      next { s with ls := .receiving, body := [], csum := seed s.params v, label := .done, result := .unit } ∧
    seed s.params .s450 = s.params.s450.start ∧ seed s.params .opos = 0

/-- 41_link_assembler.md, IDLE and any other class (that it is ignored is the spec's own decision D18): any byte but a
start delimiter is discarded, outcome `done`, and no register or stream changes. -/
def Obligations.IdleIgnoresEveryOtherByte : Prop :=
  ∀ (v : Serial) (s : State) (b : Byte), s.AssemblingIn v .idle → b ≠ startOf s.params v →
    exec (rowIdleOther b v) s = next { s with label := .done, result := .unit }

/-- R154, R155: in `RECEIVING` a start delimiter restarts assembly, a drop where a body was in progress; a stuff sentinel
changes `ls` alone. -/
def Obligations.ReceivingRestartsOnStartAndEscapesOnStuff : Prop :=
  ∀ (v : Serial) (s : State), s.AssemblingIn v .receiving →
    exec (rowReceivingStart v) s =
      next { s with ls := .receiving, body := [], csum := seed s.params v, result := .unit,
                    label := if s.blen > 0 then .drop .resync else .done } ∧
    exec (rowReceivingStuff v) s = next { s with ls := .escapeSeen, label := .done, result := .unit }

/-- 41_link_assembler.md, ORD, ESCAPE_SEEN and ACCUM (where the capacity test sits is the spec's own decision D7 and D21;
that every byte after a stuff sentinel is data, D19; the two values of `BODY_MAX`, D7): the byte, un-escaped where a stuff sentinel came before it, is
stored and added to the sum modulo 256, or, where the body is full, the frame is dropped with body and sum unchanged.
ACCUM itself leaves `ls` where it does not overflow. -/
def Obligations.DataByteIsAccumulatedOrOverflows : Prop :=
  ∀ (v : Serial) (s : State) (b : Byte),
    let drop : State := { s with ls := .idle, label := .drop .overflow, result := .unit }
    let store (x : Byte) (l : LinkState) : State :=
      { s with ls := l, body := s.body ++ [x], csum := BitVec.ofNat 8 (s.csum.toNat + x.toNat), label := .done,
               result := .unit }
    (s.AssemblingIn v .receiving → isSentinel s.params v b = false →
      exec (rowReceivingOrd b v) s = if s.blen = bodyMax v then next drop else next (store b .receiving)) ∧
    (s.AssemblingIn v .escapeSeen →
      exec (rowEscapeSeenAny b v) s =
        if s.blen = bodyMax v then next drop
        else next (store (BitVec.ofNat 8 (b.toNat + (stuffOf s.params v).toNat)) .receiving)) ∧
    (s.variant = v.toVariant →
      exec (.accum b) s = if s.blen = bodyMax v then next drop else next (store b s.ls)) ∧
    bodyMax .s450 = 259 ∧ bodyMax .opos = 258

/-- R156: the end delimiter in `RECEIVING` ends the frame: a body that fails is dropped with its reason and nothing but
`ls` changes; a body that passes is dispatched in the same step. -/
def Obligations.EndDelimiterParsesThenDropsOrDispatches : Prop :=
  ∀ (v : Serial) (s : State), s.AssemblingIn v .receiving →
    (parseBody s.params v s.body = .err .short →
      exec (rowReceivingEnd v) s = next { s with ls := .idle, label := .drop .short, result := .unit }) ∧
    (parseBody s.params v s.body = .err .csum →
      exec (rowReceivingEnd v) s = next { s with ls := .idle, label := .drop .csum, result := .unit }) ∧
    (parseBody s.params v s.body = .err .len →
      exec (rowReceivingEnd v) s = next { s with ls := .idle, label := .drop .len, result := .unit }) ∧
    (∀ f, parseBody s.params v s.body = .ok f →
      exec (rowReceivingEnd v) s = dispatchSerial v f { s with ls := .idle } ∧
      ∃ t, exec (rowReceivingEnd v) s = next t ∧ t.ls = .idle ∧ t.body = s.body ∧ t.csum = s.csum) ∧
    (∀ e, parseBody s.params v s.body = .err e → e = .short ∨ e = .csum ∨ e = .len)

/-- 10_state.md, `csum` (the invariant derived there): with it, the sum test of `PARSE` at the end delimiter is the test
`csum = 0xFF` on the running register. -/
def Obligations.RunningSumDecidesTheSumTest : Prop :=
  ∀ (v : Serial) (s : State), s.AssemblingIn v .receiving → s.Inv →
    (sumGood s.params v s.body = true ↔ s.csum = 0xFF)

/-- 41_link_assembler.md, download mode (the capture register is the spec's own decision D28): the row RXB.DL captures
any byte and touches no assembler register. -/
def Obligations.DownloadModeCapturesEveryByteRaw : Prop :=
  ∀ (s : State) (b : Byte), s.variant = .opos → s.isOpen = true → s.dlMode = true →
    exec (.rxbDl b) s = next { s with dlAck := b, dlAckValid := true, label := .done, result := .unit }

/-- 70_reset_and_hazards.md, download mode and a half-assembled frame: whatever bytes arrive between engaging the mode
and clearing it, the assembler is as it was, and the last of the bytes is in `dl_ack` (that it stays there once the mode
is cleared is the model's reading, log entry 4). -/
def Obligations.DownloadModeFreezesTheAssembler : Prop :=
  ∀ (s : State) (bs : List Byte) (rest : List Arrival), s.variant = .opos → s.isOpen = true →
    s.arrivals = .named (.dlmode true) :: (bs.map .byte ++ .named (.dlmode false) :: rest) →
    ∃ t, runSteps (bs.length + 2) s = next t ∧
      t = { s with dlMode := false, dlAck := bs.getLastD s.dlAck, dlAckValid := false, label := .done,
                   result := .unit, arrivals := rest }

/-! ### The line: RXT and CHERR -/

/-- 41_link_assembler.md, RXT (zero closes, one byte is invalid: the spec's own decision D16): refused in a serial
variant, without effect while closed, else by the length of the transfer. -/
def Obligations.TransferClosesDropsOrDelivers : Prop :=
  ∀ (s : State) (xs : List Byte),
    (s.variant ≠ .usb → exec (.rxt xs) s = refused .noTransfers) ∧
    (s.variant = .usb → s.isOpen = false → exec (.rxt xs) s = next { s with label := .done, result := .unit }) ∧
    (s.variant = .usb → s.isOpen = true →
      (xs.length = 0 → exec (.rxt xs) s = next { s with isOpen := false, label := .done, result := .unit }) ∧
      (xs.length = 1 → exec (.rxt xs) s = next { s with label := .drop .short, result := .unit }) ∧
      (258 < xs.length → exec (.rxt xs) s = next { s with label := .drop .long, result := .unit }) ∧
      (2 ≤ xs.length → xs.length ≤ 258 → exec (.rxt xs) s = exec (.dispatchUsb ⟨none, none, xs.drop 2⟩) s ∧
        ∃ t, exec (.rxt xs) s = next t ∧ (t.rspBuf = xs.drop 2 ∨ t.ev = s.ev ++ [.unsol (xs.drop 2)])))

/-- R161: CHERR clears `open` and nothing else, in every variant; on a closed session nothing changes. -/
def Obligations.ChannelErrorClearsOpenOnly : Prop :=
  ∀ s : State, exec .cherr s = next { s with isOpen := false, label := .done, result := .unit }

/-! ### The dispatcher (42_dispatcher.md section 1) -/

/-- R180: a serial frame for another address is dropped and nothing changes; a frame for `cfg_addr` passes the filter
unchanged; a `DEST` of 32 or more never passes. -/
def Obligations.AddressFilterDropsForeignFrames : Prop :=
  ∀ (s : State) (v : Serial) (f : Frame) (d : Byte), s.variant = v.toVariant → f.fits s.variant = true →
    f.dest = some d →
    (d.toNat ≠ s.cfgAddr.toNat →
      exec (.dispatchAddr f) s = next { s with label := .drop .addr, result := .unit } ∧
      dispatchSerial v f s = next { s with label := .drop .addr, result := .unit }) ∧
    (d.toNat = s.cfgAddr.toNat → exec (.dispatchAddr f) s = next { s with label := .done, result := .unit }) ∧
    (32 ≤ d.toNat → d.toNat ≠ s.cfgAddr.toNat)

/-- R181: in `S450` a frame for `cfg_addr` of type `FT_ACK` sets `ack_seen` and does nothing else, whatever its payload;
the dispatch of such a frame is that row. -/
def Obligations.Serial450AckSetsAckSeenOnly : Prop :=
  ∀ (s : State) (f : Frame), s.variant = .s450 → f.fits .s450 = true → f.dest = some (s.cfgAddr.setWidth 8) →
    f.ftype = some s.params.s450.ftAck →
    exec (.dispatchAckS450 f) s = next { s with ackSeen := true, label := .done, result := .unit } ∧
    dispatchSerial .s450 f s = exec (.dispatchAckS450 f) s

/-- 42_dispatcher.md, the OPOS ACK (told by its empty payload: the spec's own decision D10). -/
def Obligations.OposEmptyFrameSetsAckSeenOnly : Prop :=
  ∀ (s : State) (f : Frame), s.variant = .opos → f.fits .opos = true → f.dest = some (s.cfgAddr.setWidth 8) →
    f.payload = [] →
    exec (.dispatchAckOpos f) s = next { s with ackSeen := true, label := .done, result := .unit } ∧
    dispatchSerial .opos f s = exec (.dispatchAckOpos f) s

/-- 42_dispatcher.md, the automatic acknowledgment (its layout and whether OPOS sends one are the spec's own D11, D12): a
non-ACK serial frame for `cfg_addr` is acknowledged, whole, by the ACK frame of the layout tables, and then delivered;
OPOS acknowledges only where `OPOS_AUTO_ACK` is 1. -/
def Obligations.NonAckFrameIsAcknowledgedThenDelivered : Prop :=
  ∀ (s : State) (v : Serial) (f : Frame) (d : Byte), s.variant = v.toVariant → f.fits s.variant = true →
    f.dest = some d → d = s.cfgAddr.setWidth 8 →
    (v = .s450 → f.ftype ≠ some s.params.s450.ftAck) → (v = .opos → f.payload ≠ []) →
    ∃ ack,
      (v = .s450 → layoutAckS450 s.params d = some ack) ∧
      (v = .opos → s.params.opos.autoAck = true → layoutAckOpos s.params d = some ack) ∧
      (v = .opos → s.params.opos.autoAck = false → ack = []) ∧
      (watched s f = true → exec (.dispatchAutoack f) s =
        next { s with tx := s.tx ++ ack, ev := s.ev ++ [.unsol f.payload], label := .done, result := .unit }) ∧
      (watched s f = false → exec (.dispatchAutoack f) s =
        next { s with tx := s.tx ++ ack, rspBuf := f.payload, rspValid := true, label := .done, result := .unit }) ∧
      dispatchSerial v f s = exec (.dispatchAutoack f) s

/-- 42_dispatcher.md, DELIVER and the USB dispatch (the place of the command byte, the unconditional store and the USB
reading are the spec's own D13, D24, D17): a delivered frame whose first payload byte is in the Watch List raises one
event with the whole payload and nothing else; any other is stored whole as the response, replacing what was there. -/
def Obligations.DeliveryRaisesAnEventOrStoresAResponse : Prop :=
  ∀ (s : State) (f : Frame), reachesDeliver s f = true →
    (∀ c rest, f.payload = c :: rest → s.watch.getLsbD c.toNat = true →
      let t : State := { s with ev := s.ev ++ [.unsol f.payload], label := .done, result := .unit }
      exec (.deliverUnsol f) s = next t ∧ (s.variant = .usb → exec (.dispatchUsb f) s = next t)) ∧
    ((f.payload = [] ∨ ∃ c rest, f.payload = c :: rest ∧ s.watch.getLsbD c.toNat = false) →
      let t : State := { s with rspBuf := f.payload, rspValid := true, label := .done, result := .unit }
      exec (.deliverRsp f) s = next t ∧ (s.variant = .usb → exec (.dispatchUsb f) s = next t))

/-- 60_exceptions.md, notifications (derived there): no operation raises two of an ACK, a response and an unsolicited
event, and none raises one of them together with clearing `open`. -/
def Obligations.OneOperationRaisesAtMostOneNotification : Prop :=
  ∀ (i : Instr) (s t : State), exec i s = next t →
    let ack : Prop := s.ackSeen = false ∧ t.ackSeen = true
    let rsp : Prop := s.rspValid = false ∧ t.rspValid = true
    let uns : Prop := s.ev ≠ t.ev
    let closed : Prop := s.isOpen = true ∧ t.isOpen = false
    ¬(ack ∧ rsp) ∧ ¬(ack ∧ uns) ∧ ¬(rsp ∧ uns) ∧ ¬(closed ∧ (ack ∨ rsp ∨ uns))

/-! ### The codec (40_codec.md) -/

/-- R120: the escape of one byte and of a list; the sentinel itself gives `[STUFF, 0x00]`, the difference is modulo 256,
and the second byte of a pair is never a sentinel. -/
def Obligations.EscapeReplacesSentinelsOnly : Prop :=
  ∀ (s : State) (v : Serial) (b : Byte),
    let stuff := stuffOf s.params v
    (isSentinel s.params v b = false → exec (.esc v b) s = next { s with label := .done, result := .bytes [b] }) ∧
    (isSentinel s.params v b = true → ∃ e,
      exec (.esc v b) s = next { s with label := .done, result := .bytes [stuff, e] } ∧
      e.toNat = (b.toNat + 256 - stuff.toNat) % 256 ∧ isSentinel s.params v e = false ∧ (b = stuff → e = 0)) ∧
    (∀ bs, escList s.params v bs = bs.flatMap (escByte s.params v))

/-- R121, with the law of 40_codec.md section 5 that it undoes the escape: the sum of the byte and the stuff sentinel
modulo 256, for all 256 values. -/
def Obligations.UnescapeAddsTheStuffSentinel : Prop :=
  ∀ (s : State) (v : Serial) (e : Byte), ∃ u,
    exec (.unesc v e) s = next { s with label := .done, result := .byte u } ∧
    u.toNat = (e.toNat + (stuffOf s.params v).toNat) % 256 ∧
    ∀ b, escByte s.params v b = [stuffOf s.params v, e] → u = b

/-- 40_codec.md, CHK: the checksum byte, from the integer sum reduced once and, with the same result, from a byte
accumulator reduced at every addition. That the OPOS sum starts from 0 is the spec's own decision D8. -/
def Obligations.ChecksumComplementsTheSumReducedOnce : Prop :=
  ∀ (s : State) (v : Serial) (hp : List Byte), ∃ c,
    exec (.chk v hp) s = next { s with label := .done, result := .byte c } ∧
    c.toNat = (255 - ((seed s.params v).toNat + (hp.map BitVec.toNat).sum) % 256) % 256 ∧
    c = 0xFF - hp.foldl (fun acc b => acc + b) (seed s.params v) ∧
    seed s.params .s450 = s.params.s450.start ∧ seed s.params .opos = 0

/-- 40_codec.md, the encoders and 30_encoding.md, the layouts (the ranges are the spec's own D4, D6, D14; that the
layout rows FRAME.* and ACK.* are operations, which answer their bytes and change nothing, is the model's reading, log
entry 12, DEDUCED): the layout rows and the encoders answer the bytes of the encoder functions and change nothing; an ACK
is the frame of type `FT_ACK`, or of no type, with no payload. -/
def Obligations.LayoutsAgreeWithTheEncoders : Prop :=
  ∀ (s : State) (ft d : Byte) (data : List Byte), ∃ u x o a k,
    exec (.encUsb ft d data) s = next { s with label := .done, result := .optBytes u } ∧
    exec (.frameUsb data) s = next { s with label := .done, result := .optBytes u } ∧
    exec (.encS450 ft d data) s = next { s with label := .done, result := .optBytes x } ∧
    exec (.frameS450 ft d data) s = next { s with label := .done, result := .optBytes x } ∧
    exec (.encOpos ft d data) s = next { s with label := .done, result := .optBytes o } ∧
    exec (.frameOpos d data) s = next { s with label := .done, result := .optBytes o } ∧
    exec (.ackS450 d) s = next { s with label := .done, result := .optBytes a } ∧
    exec (.ackOpos d) s = next { s with label := .done, result := .optBytes k } ∧
    u = encodeUsb data ∧ x = encodeS450 s.params ft d data ∧ o = encodeOpos s.params d data ∧
    a = encodeS450 s.params s.params.s450.ftAck d [] ∧ k = encodeOpos s.params d [] ∧
    (u = none ↔ 256 < data.length) ∧
    (x = none ↔ isOneOf s.params.s450.ftAck s.params.s450.ftSystem s.params.s450.ftCmd ft = false ∨
      31 < d.toNat ∨ 255 < data.length) ∧
    (o = none ↔ 31 < d.toNat ∨ 255 < data.length)

/-- 40_codec.md, the decoders and `PARSE` (the USB header unread, the order of the tests and `BODY_MAX` are the spec's own
D15, D20, D7): each operation completes in every state on every operand, answers the value of its function and changes
nothing. `DEC.USB` answers by length alone. `PARSE` answers each of its errors under exactly its condition and otherwise
a frame, whose fields are where the layout puts them. `DEC.S450` and `DEC.OPOS` refuse bytes without the delimiters and
answer for an escaped body between them what `PARSE` answers for the body, or an overflow. -/
def Obligations.DecodersAnswerWithTheFieldsOfTheBody : Prop :=
  ∀ (s : State) (v : Serial) (raw : List Byte),
    let u := decodeUsb raw
    let q := parseBody s.params v raw
    let w := decodeSerial s.params v raw
    let h := headerLength v
    let sum := ((seed s.params v).toNat + (raw.map BitVec.toNat).sum) % 256
    let len := (raw.getD (h - 1) 0).toNat
    exec (.decUsb raw) s = next { s with label := .done, result := .decoded u } ∧
    exec (.decS450 raw) s =
      next { s with label := .done, result := .decoded (decodeSerial s.params .s450 raw) } ∧
    exec (.decOpos raw) s =
      next { s with label := .done, result := .decoded (decodeSerial s.params .opos raw) } ∧
    exec (.parse v raw) s = next { s with label := .done, result := .decoded q } ∧
    (raw.length < 2 → u = .err .short) ∧ (258 < raw.length → u = .err .long) ∧
    (2 ≤ raw.length → raw.length ≤ 258 → u = .ok ⟨none, none, raw.drop 2⟩) ∧
    headerLength .s450 = 3 ∧ headerLength .opos = 2 ∧
    (raw.length < h + 1 → q = .err .short) ∧
    (h + 1 ≤ raw.length → sum ≠ 255 → q = .err .csum) ∧
    (h + 1 ≤ raw.length → sum = 255 → len ≠ raw.length - h - 1 → q = .err .len) ∧
    (h + 1 ≤ raw.length → sum = 255 → len = raw.length - h - 1 → ∃ f, q = .ok f) ∧
    (∀ f, q = .ok f → ∃ hdr c,
      raw = hdr ++ f.payload ++ [c] ∧
      (v = .s450 → ∃ t d, f.ftype = some t ∧ f.dest = some d ∧ hdr = [t, d, BitVec.ofNat 8 f.payload.length]) ∧
      (v = .opos → ∃ d, f.ftype = none ∧ f.dest = some d ∧ hdr = [d, BitVec.ofNat 8 f.payload.length]) ∧
      f.payload.length ≤ 255 ∧ c = checksum s.params v (hdr ++ f.payload)) ∧
    (raw.length < 2 ∨ raw.head? ≠ some (startOf s.params v) ∨ raw.getLast? ≠ some (stopOf s.params v) →
      w = .err .delim) ∧
    (∀ body, raw = [startOf s.params v] ++ escList s.params v body ++ [stopOf s.params v] →
      w = if body.length ≤ bodyMax v then parseBody s.params v body else .err .overflow)

/-- 40_codec.md section 5, round trip (derived there): decoding what the encoder of a variant gives returns the frame,
for every payload up to the variant's maximum, every address and every defined type. -/
def Obligations.DecodeOfEncodedFrameReturnsTheFrame : Prop :=
  ∀ p : Params,
    (∀ data, data.length ≤ 256 → ∃ w, encodeUsb data = some w ∧ decodeUsb w = .ok ⟨none, none, data⟩) ∧
    (∀ ft d data, ft = p.s450.ftAck ∨ ft = p.s450.ftSystem ∨ ft = p.s450.ftCmd → d.toNat ≤ 31 → data.length ≤ 255 →
      ∃ w, encodeS450 p ft d data = some w ∧ decodeSerial p .s450 w = .ok ⟨some ft, some d, data⟩) ∧
    (∀ d data, d.toNat ≤ 31 → data.length ≤ 255 →
      ∃ w, encodeOpos p d data = some w ∧ decodeSerial p .opos w = .ok ⟨none, some d, data⟩)

/-- 40_codec.md section 5, no bare sentinel (derived there): in a serial frame the start delimiter stands first and
nowhere else, the end delimiter last and nowhere else, and a stuff sentinel is followed, before the end delimiter, by the
image of a sentinel, which is none itself. -/
def Obligations.EncodedFrameHasNoBareSentinel : Prop :=
  ∀ (p : Params) (v : Serial) (ft d : Byte) (data w : List Byte), encodeFor p v.toVariant ft d data = some w →
    ∀ k, k < w.length →
      (w[k]? = some (startOf p v) ↔ k = 0) ∧ (w[k]? = some (stopOf p v) ↔ k + 1 = w.length) ∧
      (w[k]? = some (stuffOf p v) → ∃ e, w[k + 1]? = some e ∧ k + 2 < w.length ∧ isSentinel p v e = false ∧
        isSentinel p v (unescByte p v e) = true)

/-- 40_codec.md section 5, the sum test sees raw bytes (derived there): of a wire frame whose interior un-escapes, the
sum test is a test of the raw bytes between the delimiters. -/
def Obligations.SumTestSeesTheRawBytes : Prop :=
  ∀ (p : Params) (v : Serial) (raw : List Byte),
    let rawSum := (seed p v).toNat + ((raw.drop 1).dropLast.map BitVec.toNat).sum
    (∀ f, decodeSerial p v raw = .ok f → rawSum % 256 = 255) ∧
    (decodeSerial p v raw = .err .len → rawSum % 256 = 255) ∧
    (decodeSerial p v raw = .err .csum → rawSum % 256 ≠ 255)

/-- 40_codec.md section 5, single-bit rejection (derived there): one flipped bit between the delimiters of an accepted
serial frame makes whole-frame decode answer an error. -/
def Obligations.SingleBitFlipIsRejectedByWholeFrameDecode : Prop :=
  ∀ (p : Params) (v : Serial) (raw : List Byte) (f : Frame) (k : Nat) (b : Byte) (j : Nat),
    decodeSerial p v raw = .ok f → 0 < k → k + 1 < raw.length → raw[k]? = some b → j < 8 →
    ∃ e, decodeSerial p v (raw.set k (b ^^^ (1#8 <<< j))) = .err e

/-- 40_codec.md section 5, whole-frame decode agrees with the byte-stream assembler (derived there): fed the bytes of a
frame that decodes, one a step, from `IDLE` or `RECEIVING`, the machine changes nothing but the assembler before the
last byte, dispatches exactly that frame at the last, and is then idle; a frame that decodes to a short, checksum or
length error ends in the drop of the same reason. -/
def Obligations.AssemblerAgreesWithWholeFrameDecode : Prop :=
  ∀ (v : Serial) (raw : List Byte) (s : State) (rest : List Arrival), s.variant = v.toVariant → s.isOpen = true →
    s.dlMode = false → s.ls ≠ .escapeSeen → s.arrivals = raw.map .byte ++ rest →
    (∀ f, decodeSerial s.params v raw = .ok f → ∃ t,
      runSteps (raw.length - 1) s = next t ∧ SameButAssembler s t ∧ t.ls = .receiving ∧
      runSteps raw.length s = dispatchSerial v f { t with ls := .idle, arrivals := rest } ∧
      ∃ u, runSteps raw.length s = next u ∧ u.ls = .idle) ∧
    (∀ e r, (e, r) ∈ [(DecodeError.short, DropReason.short), (.csum, .csum), (.len, .len)] →
      decodeSerial s.params v raw = .err e → ∃ t, SameButAssembler s t ∧
        runSteps raw.length s = next t ∧ t.ls = .idle ∧ t.label = .drop r)

/-- 70_reset_and_hazards.md, frames for another address are invisible (with the address filter of 42_dispatcher.md): the
whole run over the bytes of a well-formed frame for another address changes nothing that the host or the channel sees. -/
def Obligations.FrameForAnotherAddressIsInvisible : Prop :=
  ∀ (v : Serial) (raw : List Byte) (f : Frame) (s : State) (rest : List Arrival), s.variant = v.toVariant →
    s.isOpen = true → s.dlMode = false → s.ls ≠ .escapeSeen → s.arrivals = raw.map .byte ++ rest →
    decodeSerial s.params v raw = .ok f → f.dest ≠ some (s.cfgAddr.setWidth 8) →
    ∃ t, runSteps raw.length s = next t ∧ SameButAssembler s t

/-- 70_reset_and_hazards.md, resynchronisation (derived there): the ten bytes given there, one flipped bit away from a
valid frame, are answered `E_DELIM` by whole-frame decode and accepted by the stream, which then holds payload `77`; with
the OPOS delimiters at their defaults. -/
def Obligations.ResynchronisationAcceptsAFrameNeverSent : Prop :=
  ∀ s : State, s.params.opos.us = 0x1F → s.params.opos.eot = 0x04 → s.variant = .opos → s.isOpen = true →
    s.dlMode = false → s.ls = .idle → s.cfgAddr = 1 → s.watch.getLsbD 0x77 = false →
    s.arrivals = [0x1F, 0x01, 0x05, 0x5B, 0x1F, 0x01, 0x01, 0x77, 0x86, 0x04].map Arrival.byte →
    decodeSerial s.params .opos [0x1F, 0x01, 0x05, 0x5B, 0x1F, 0x01, 0x01, 0x77, 0x86, 0x04] = .err .delim ∧
    decodeSerial s.params .opos [0x1F, 0x01, 0x05, 0x5B, 0x9F, 0x01, 0x01, 0x77, 0x86, 0x04] =
      .ok ⟨none, some 1, [0x5B, 0x9F, 0x01, 0x01, 0x77]⟩ ∧
    ∃ t, runSteps 10 s = next t ∧ t.rspBuf = [0x77] ∧ t.rspValid = true

/-! ### Decoding and stepping -/

/-- 30_encoding.md, operations and byte rows, with 41_link_assembler.md, the summary table: every well-formed operation
that an agent issues or a byte selects is read back from its own arrival, in every context that admits it. -/
def Obligations.DecodeOfEncodedOperationIsTheOperation : Prop :=
  ∀ (c : Context) (i : Instr) (a : Arrival), i.wellFormed c.params = true → c.admits i = true →
    encode c.params i = some a → decode c a = some i

/-- A sanity check of the decoder on bytes written out from the class table and the transitions (30_encoding.md section
3, 41_link_assembler.md section 2) with the parameters REFA. The last four clauses are of `decodeTableWord` and rest on log
entry 10 (DESIGN CHOICE: the link state in which each byte of the table is read, so that 1F is RXB.IDLE.START.OPOS and
not RXB.RECEIVING.START.OPOS, which has the same bits; PRESUMED: the OPOS delimiters 1F and 04). -/
def Obligations.ByteWordsDecodeToTheirRows : Prop :=
  let at450 (l : LinkState) : Context := ⟨{}, .s450, true, false, l⟩
  decode (at450 .idle) (.byte 0xFE) = some .rxbIdleStartS450 ∧
  decode (at450 .idle) (.byte 0xFF) = some (.rxbIdleOtherS450 0xFF) ∧
  decode (at450 .receiving) (.byte 0xFE) = some .rxbReceivingStartS450 ∧
  decode (at450 .receiving) (.byte 0xFD) = some .rxbReceivingStuffS450 ∧
  decode (at450 .receiving) (.byte 0xFF) = some .rxbReceivingEndS450 ∧
  decode (at450 .receiving) (.byte 0x43) = some (.rxbReceivingOrdS450 0x43) ∧
  decode (at450 .escapeSeen) (.byte 0xFE) = some (.rxbEscapeSeenAnyS450 0xFE) ∧
  decodeTableWord 8 0x1F = some .rxbIdleStartOpos ∧
  decodeTableWord 8 0xA0 = some .rxbReceivingStuffOpos ∧
  decodeTableWord 8 0x04 = some .rxbReceivingEndOpos ∧
  decodeTableWord 8 0x00 = some (.rxbEscapeSeenAnyOpos 0x00)

/-- A step runs the operation that the decoder reads from the next arrival, on the state without that arrival; a name no
agent issues is refused; with nothing arriving the block waits (log entries 2 and 8). -/
def Obligations.StepRunsTheArrivingOperation : Prop :=
  ∀ s : State,
    (∀ a rest i, s.arrivals = a :: rest → decode s.context a = some i →
      step s = exec i { s with arrivals := rest }) ∧
    (∀ a rest, s.arrivals = a :: rest → decode s.context a = none → step s = refused .notIssued) ∧
    (s.arrivals = [] → step s = next s)

/-- No row of the table that a byte selects is ever asked for outside its condition: a step refuses only for the reasons
the spec gives an operation (20_memory.md section 5; 41_link_assembler.md section 2), never because a row was not
selected. -/
def Obligations.StepNeverRunsAnUnselectedRow : Prop :=
  ∀ s : State, step s ≠ refused .rowNotSelected ∧ ∀ m, step s ≠ refused (.notModelled m)

/-! ### Whole-machine rules -/

/-- 10_state.md, output streams: no operation takes anything from `tx` or `ev`; none changes the open parameters or what
is still to arrive. -/
def Obligations.StreamsOnlyGrowAndParametersAreConstant : Prop :=
  ∀ (i : Instr) (s t : State), exec i s = next t →
    s.tx <+: t.tx ∧ s.ev <+: t.ev ∧ t.params = s.params ∧ t.arrivals = s.arrivals

/-- 20_memory.md, configuration coherence (with 10_state.md section 4): variant, address and Watch List change only by
CFG on a closed session and by RESET; an open session's configuration changes only by the RESET that closes it. -/
def Obligations.ConfigurationChangesOnlyByCfgWhileClosedOrReset : Prop :=
  ∀ (i : Instr) (s t : State), exec i s = next t →
    (t.variant ≠ s.variant ∨ t.cfgAddr ≠ s.cfgAddr ∨ t.watch ≠ s.watch) →
    i = .reset ∨ (s.isOpen = false ∧ t.isOpen = false ∧ ∃ c a w, i = .cfg c a w)

/-- 10_state.md section 4, `open`, `trace` and `dl_mode`: which operations write them. -/
def Obligations.ControlBitsChangeOnlyByTheirWriters : Prop :=
  ∀ (i : Instr) (s t : State), exec i s = next t →
    (s.isOpen = false → t.isOpen = true → i = .connect true) ∧
    (s.isOpen = true → t.isOpen = false →
      i = .reset ∨ i = .disconnect ∨ i = .cherr ∨ i = .rxt [] ∨
        ∃ ft data, i = .send ft data false ∨ i = .sendw ft data false) ∧
    (t.trace ≠ s.trace → i = .reset ∨ i = .settrace t.trace) ∧
    (t.dlMode ≠ s.dlMode → i = .reset ∨ i = .connect true ∨ i = .dlmode t.dlMode)

/-- 10_state.md section 2: no operation that the host or the timer issues by name reads the assembler registers, and of
those only RESET and CONNECT write them. -/
def Obligations.NamedOperationsLeaveTheAssemblerAlone : Prop :=
  ∀ (i : Instr) (s : State) (l : LinkState) (bd : List Byte) (c : Byte), i.isByName = true → i ≠ .reset →
    (∀ ok, i ≠ .connect ok) →
    exec i (s.withAssembler l bd c) = mapNext (fun t => t.withAssembler l bd c) (exec i s) ∧
    ∀ t, exec i s = next t → t.ls = s.ls ∧ t.body = s.body ∧ t.csum = s.csum

/-- 10_state.md section 3: the flags of the line side are set only by the line: `ack_seen`, `rsp_valid` and
`dl_ack_valid` never rise by an operation that is issued by name. -/
def Obligations.NamedOperationsRaiseNoLineFlag : Prop :=
  ∀ (i : Instr) (s t : State), i.isByName = true → exec i s = next t →
    (t.ackSeen = true → s.ackSeen = true) ∧ (t.rspValid = true → s.rspValid = true) ∧
    (t.dlAckValid = true → s.dlAckValid = true) ∧ t.ev = s.ev

/-- The invariant holds at reset (10_state.md sections 2, 4, 5 and 7). -/
def Obligations.ResetStateMeetsTheInvariant : Prop :=
  State.reset.Inv

/-- Every step from a state that meets the invariant ends in one that meets it: the body within its capacity, the
running sum that of the body, download mode in OPOS only, the USB assembler idle, the response within its bound
(10_state.md sections 2, 4 and 5; log entry 11 says why it speaks of an open session). -/
def Obligations.EveryStepKeepsTheInvariant : Prop :=
  ∀ s t : State, s.Inv → step s = next t → t.Inv

/-- EXPECTED TO FAIL: the bound of 10_state.md on `blen` (the spec's own decision D7) read of closed sessions too. It is
stated between the two serial variants alone, which have a `BODY_MAX`. `CFG` on a session closed with an `S450` body of
259 bytes leaves that length beside variant `OPOS`, whose bound is 258 (log entry 11, DEDUCED). -/
def Obligations.BodyBoundSurvivesReconfiguration : Prop :=
  ∀ (v w : Serial) (s t : State), s.variant = v.toVariant → s.blen ≤ bodyMax v → step s = next t →
    t.variant = w.toVariant → t.blen ≤ bodyMax w
end

