-- ==== Sys2Proof/Laws/Codec.lean ====
section
/-! SUPPORT. Small lemmas of the codec: the sum, the sentinels and classes, escaping, the scan and `PARSE`. -/

namespace Sys2Proof

/-! ### The sum (R131) -/

@[simp] theorem byteSum_nil : byteSum [] = 0 := rfl

@[simp] theorem byteSum_cons (b : Byte) (bs : List Byte) : byteSum (b :: bs) = b + byteSum bs := rfl

@[simp] theorem byteSum_append (xs ys : List Byte) : byteSum (xs ++ ys) = byteSum xs + byteSum ys := by
  induction xs with
  | nil => simp
  | cons b bs ih => simp [ih, BitVec.add_assoc]

/-- The byte accumulator and the integer sum reduced once agree (R122). -/
theorem byteSum_toNat (xs : List Byte) : (byteSum xs).toNat = (xs.map BitVec.toNat).sum % 256 := by
  induction xs with
  | nil => simp
  | cons b bs ih => simp [BitVec.toNat_add, ih]

/-- A byte accumulator reduced at every addition ends at the sum reduced once (R122). -/
theorem foldl_add_eq_byteSum (xs : List Byte) : ∀ a : Byte, xs.foldl (fun acc b => acc + b) a = a + byteSum xs := by
  induction xs with
  | nil => simp
  | cons b bs ih => simp [ih, BitVec.add_assoc]

/-! ### Per-variant constants -/

theorem bodyMax_eq_bodyLimit (v : Serial) : bodyMax v = bodyLimit v := by cases v <;> rfl

theorem startOf_ne_stopOf (p : Params) (v : Serial) : startOf p v ≠ stopOf p v := by
  have h4 := p.s450.wf1
  have ho := p.opos.wf1
  simp only [sentinelsDistinct, Bool.and_eq_true, bne_iff_ne] at h4 ho
  cases v <;> simp [startOf, stopOf, h4, ho]

theorem startOf_ne_stuffOf (p : Params) (v : Serial) : startOf p v ≠ stuffOf p v := by
  have h4 := p.s450.wf1
  have ho := p.opos.wf1
  simp only [sentinelsDistinct, Bool.and_eq_true, bne_iff_ne] at h4 ho
  cases v <;> simp [startOf, stuffOf, h4, ho]

theorem stopOf_ne_stuffOf (p : Params) (v : Serial) : stopOf p v ≠ stuffOf p v := by
  have h4 := p.s450.wf1
  have ho := p.opos.wf1
  simp only [sentinelsDistinct, Bool.and_eq_true, bne_iff_ne] at h4 ho
  cases v <;> simp [stopOf, stuffOf, h4, ho]

/-- WF2 as the spec uses it: the image of a sentinel is no sentinel (R6, R120). -/
theorem isSentinel_image (p : Params) (v : Serial) (b : Byte) (h : isSentinel p v b = true) :
    isSentinel p v (b - stuffOf p v) = false := by
  have h4 := p.s450.wf2
  have ho := p.opos.wf2
  simp only [imagesClear, Bool.and_eq_true, Bool.not_eq_true'] at h4 ho
  simp only [isSentinel, isOneOf, Bool.or_eq_true, beq_iff_eq] at h
  cases v <;> rcases h with (rfl | rfl) | rfl <;> simp only [isSentinel, startOf, stopOf, stuffOf] <;> first | exact h4.1.1 | exact h4.1.2 | exact h4.2 | exact ho.1.1 | exact ho.1.2 | exact ho.2

theorem isSentinel_iff (p : Params) (v : Serial) (b : Byte) :
    isSentinel p v b = true ↔ b = startOf p v ∨ b = stopOf p v ∨ b = stuffOf p v := by
  simp [isSentinel, isOneOf, or_assoc]

/-! ### Classes (R90) -/

@[simp] theorem classOf_startOf (p : Params) (v : Serial) : classOf p v (startOf p v) = .start := by
  simp [classOf]

@[simp] theorem classOf_stopOf (p : Params) (v : Serial) : classOf p v (stopOf p v) = .stop := by
  simp [classOf, (startOf_ne_stopOf p v).symm]

@[simp] theorem classOf_stuffOf (p : Params) (v : Serial) : classOf p v (stuffOf p v) = .stuff := by
  simp [classOf, (startOf_ne_stuffOf p v).symm, (stopOf_ne_stuffOf p v).symm]

theorem classOf_eq_start (p : Params) (v : Serial) (b : Byte) : classOf p v b = .start ↔ b = startOf p v := by
  unfold classOf
  split
  · simp_all
  · split
    · simp_all
    · split <;> simp_all

theorem classOf_eq_stop (p : Params) (v : Serial) (b : Byte) : classOf p v b = .stop ↔ b = stopOf p v := by
  have h := startOf_ne_stopOf p v
  unfold classOf
  split
  · simp_all
  · split
    · simp_all
    · split <;> simp_all

theorem classOf_eq_stuff (p : Params) (v : Serial) (b : Byte) : classOf p v b = .stuff ↔ b = stuffOf p v := by
  have h1 := startOf_ne_stuffOf p v
  have h2 := stopOf_ne_stuffOf p v
  unfold classOf
  split
  · simp_all
  · split
    · simp_all
    · split <;> simp_all

theorem classOf_eq_ord (p : Params) (v : Serial) (b : Byte) : classOf p v b = .ord ↔ isSentinel p v b = false := by
  rw [← Bool.not_eq_true, isSentinel_iff]
  unfold classOf
  split
  · simp_all
  · split
    · simp_all
    · split <;> simp_all

/-! ### Escaping (R120, R121, R132) -/

theorem escByte_ord (p : Params) (v : Serial) (b : Byte) (h : isSentinel p v b = false) : escByte p v b = [b] := by
  rw [← Bool.not_eq_true, isSentinel_iff] at h
  simp [escByte, h]

theorem escByte_sentinel (p : Params) (v : Serial) (b : Byte) (h : isSentinel p v b = true) :
    escByte p v b = [stuffOf p v, b - stuffOf p v] := by
  rw [isSentinel_iff] at h
  simp [escByte, h]

@[simp] theorem unescByte_image (p : Params) (v : Serial) (b : Byte) : unescByte p v (b - stuffOf p v) = b := by
  simp [unescByte]

@[simp] theorem escList_nil (p : Params) (v : Serial) : escList p v [] = [] := rfl

@[simp] theorem escList_cons (p : Params) (v : Serial) (b : Byte) (bs : List Byte) :
    escList p v (b :: bs) = escByte p v b ++ escList p v bs := rfl

@[simp] theorem escList_append (p : Params) (v : Serial) (xs ys : List Byte) :
    escList p v (xs ++ ys) = escList p v xs ++ escList p v ys := by
  induction xs with
  | nil => rfl
  | cons b bs ih => simp [ih]

/-! ### `PARSE` and `DEC.USB` (R127, R130) -/

/-- `PARSE` answers only the three errors that the assembler can drop a frame for (R156). -/
theorem parseBody_err (p : Params) (v : Serial) (body : List Byte) (e : DecodeError)
    (h : parseBody p v body = .err e) : e = .short ∨ e = .csum ∨ e = .len := by
  unfold parseBody at h
  split at h
  · cases h; simp
  · split at h
    · cases h; simp
    · split at h
      · cases h; simp
      · cases h

/-- `DEC.USB` answers only the two errors of `RXT` (R160). -/
theorem decodeUsb_err (raw : List Byte) (e : DecodeError) (h : decodeUsb raw = .err e) : e = .short ∨ e = .long := by
  unfold decodeUsb at h
  split at h
  · cases h; simp
  · split at h
    · cases h; simp
    · cases h

/-- What an accepted body is (R130). -/
theorem parseBody_ok (p : Params) (v : Serial) (body : List Byte) (f : Frame) (h : parseBody p v body = .ok f) :
    headerLength v + 1 ≤ body.length ∧ seed p v + byteSum body = 0xFF ∧
      (body.getD (headerLength v - 1) 0).toNat = ((body.drop (headerLength v)).dropLast).length ∧
      f = bodyFields v body ((body.drop (headerLength v)).dropLast) := by
  unfold parseBody at h
  split at h
  · cases h
  · next h1 =>
    split at h
    · cases h
    · next h2 =>
      split at h
      · cases h
      · next h3 =>
        cases h
        refine ⟨by omega, ?_, by simpa using h3, rfl⟩
        simpa [sumGood, Config.csumGood] using h2

/-- The payload of an accepted body has at most 255 bytes, `LEN` being a byte. -/
theorem parseBody_payload_length (p : Params) (v : Serial) (body : List Byte) (f : Frame)
    (h : parseBody p v body = .ok f) : f.payload.length ≤ 255 := by
  obtain ⟨-, -, hl, rfl⟩ := parseBody_ok p v body f h
  have := (body.getD (headerLength v - 1) 0).isLt
  cases v <;> simp only [bodyFields] <;> omega

/-! ### The scan (R128) -/

/-- Where the scan reaches `PARSE`, it parses what the bytes un-escape to; the sum of that body is the sum of the raw
bytes scanned, with the stuff sentinel already seen where one is pending (R135). -/
theorem scanInterior_reaches_parse (p : Params) (v : Serial) (raw : List Byte) :
    ∀ (body : List Byte) (escaped : Bool),
      (∃ full, scanInterior p v body escaped raw = parseBody p v full ∧
        byteSum full = byteSum body + ((if escaped then stuffOf p v else 0) + byteSum raw)) ∨
      scanInterior p v body escaped raw = .err .delim ∨ scanInterior p v body escaped raw = .err .esc ∨
      scanInterior p v body escaped raw = .err .overflow := by
  induction raw with
  | nil =>
    intro body escaped
    cases escaped
    · exact .inl ⟨body, by simp [scanInterior], by simp⟩
    · exact .inr (.inr (.inl (by simp [scanInterior])))
  | cons b rest ih =>
    intro body escaped
    cases escaped with
    | true =>
      simp only [scanInterior, if_true]
      split
      · simp
      · rcases ih (body ++ [unescByte p v b]) false with ⟨full, h1, h2⟩ | h
        · refine .inl ⟨full, h1, ?_⟩
          rw [h2]
          simp only [byteSum_append, byteSum_cons, byteSum_nil, unescByte, Bool.false_eq_true, if_false]
          ring
        · exact .inr h
    | false =>
      simp only [scanInterior, Bool.false_eq_true, if_false]
      split
      · next hb =>
        rcases ih body true with ⟨full, h1, h2⟩ | h
        · exact .inl ⟨full, h1, by rw [h2]; simp [hb]⟩
        · exact .inr h
      · split
        · simp
        · split
          · simp
          · rcases ih (body ++ [b]) false with ⟨full, h1, h2⟩ | h
            · refine .inl ⟨full, h1, ?_⟩
              rw [h2]
              simp [BitVec.add_assoc]
            · exact .inr h

/-- Scanning the escaped image of `bs` accumulates `bs`, as long as the body keeps within its capacity. -/
theorem scanInterior_escList (p : Params) (v : Serial) (bs rest : List Byte) :
    ∀ body : List Byte, body.length + bs.length ≤ bodyMax v →
      scanInterior p v body false (escList p v bs ++ rest) = scanInterior p v (body ++ bs) false rest := by
  induction bs with
  | nil => intro body _; simp
  | cons b bs ih =>
    intro body hlen
    simp only [List.length_cons] at hlen
    have hfit : ¬ bodyMax v < body.length + 1 := by omega
    have hrest := ih (body ++ [b]) (by simp; omega)
    rcases hs : isSentinel p v b with _ | _
    · have hn := hs
      rw [← Bool.not_eq_true, isSentinel_iff] at hn
      simp only [not_or] at hn
      simp [escByte_ord p v b hs, scanInterior, hn, hfit, hrest]
    · simp [escByte_sentinel p v b hs, scanInterior, hfit, hrest]

/-- Scanning the escaped image of a list that outgrows the body's capacity overflows. -/
theorem scanInterior_escList_overflow (p : Params) (v : Serial) (bs rest : List Byte) :
    ∀ body : List Byte, body.length ≤ bodyMax v → bodyMax v < body.length + bs.length →
      scanInterior p v body false (escList p v bs ++ rest) = .err .overflow := by
  induction bs with
  | nil =>
    intro body h1 h2
    simp at h2
    omega
  | cons b bs ih =>
    intro body h1 h2
    simp only [List.length_cons] at h2
    by_cases hfit : bodyMax v < body.length + 1
    · rcases hs : isSentinel p v b with _ | _
      · have hn := hs
        rw [← Bool.not_eq_true, isSentinel_iff] at hn
        simp only [not_or] at hn
        simp [escByte_ord p v b hs, scanInterior, hn, hfit]
      · simp [escByte_sentinel p v b hs, scanInterior, hfit]
    · have hrest := ih (body ++ [b]) (by simp; omega) (by simp; omega)
      rcases hs : isSentinel p v b with _ | _
      · have hn := hs
        rw [← Bool.not_eq_true, isSentinel_iff] at hn
        simp only [not_or] at hn
        simp [escByte_ord p v b hs, scanInterior, hn, hfit, hrest]
      · simp [escByte_sentinel p v b hs, scanInterior, hfit, hrest]

end Sys2Proof
end

