-- ==== Sys2Proof/Laws/State.lean ====
section
/-! SUPPORT. One lemma per field per update of the state (Machine/Ops.lean): each true by `rfl`, so that no proof unfolds
a record update. -/

namespace Sys2Proof.Machine

/-! #### `State.setLs` -/

@[simp] theorem State.setLs_ls (s : State) (l : LinkState) : (s.setLs l).ls = l := rfl
@[simp] theorem State.setLs_body (s : State) (l : LinkState) : (s.setLs l).body = s.body := rfl
@[simp] theorem State.setLs_csum (s : State) (l : LinkState) : (s.setLs l).csum = s.csum := rfl
@[simp] theorem State.setLs_ackSeen (s : State) (l : LinkState) : (s.setLs l).ackSeen = s.ackSeen := rfl
@[simp] theorem State.setLs_rspValid (s : State) (l : LinkState) : (s.setLs l).rspValid = s.rspValid := rfl
@[simp] theorem State.setLs_pend (s : State) (l : LinkState) : (s.setLs l).pend = s.pend := rfl
@[simp] theorem State.setLs_dlAckValid (s : State) (l : LinkState) : (s.setLs l).dlAckValid = s.dlAckValid := rfl
@[simp] theorem State.setLs_variant (s : State) (l : LinkState) : (s.setLs l).variant = s.variant := rfl
@[simp] theorem State.setLs_cfgAddr (s : State) (l : LinkState) : (s.setLs l).cfgAddr = s.cfgAddr := rfl
@[simp] theorem State.setLs_watch (s : State) (l : LinkState) : (s.setLs l).watch = s.watch := rfl
@[simp] theorem State.setLs_isOpen (s : State) (l : LinkState) : (s.setLs l).isOpen = s.isOpen := rfl
@[simp] theorem State.setLs_trace (s : State) (l : LinkState) : (s.setLs l).trace = s.trace := rfl
@[simp] theorem State.setLs_dlMode (s : State) (l : LinkState) : (s.setLs l).dlMode = s.dlMode := rfl
@[simp] theorem State.setLs_rspBuf (s : State) (l : LinkState) : (s.setLs l).rspBuf = s.rspBuf := rfl
@[simp] theorem State.setLs_dlAck (s : State) (l : LinkState) : (s.setLs l).dlAck = s.dlAck := rfl
@[simp] theorem State.setLs_tx (s : State) (l : LinkState) : (s.setLs l).tx = s.tx := rfl
@[simp] theorem State.setLs_ev (s : State) (l : LinkState) : (s.setLs l).ev = s.ev := rfl
@[simp] theorem State.setLs_params (s : State) (l : LinkState) : (s.setLs l).params = s.params := rfl
@[simp] theorem State.setLs_label (s : State) (l : LinkState) : (s.setLs l).label = s.label := rfl
@[simp] theorem State.setLs_result (s : State) (l : LinkState) : (s.setLs l).result = s.result := rfl
@[simp] theorem State.setLs_arrivals (s : State) (l : LinkState) : (s.setLs l).arrivals = s.arrivals := rfl
@[simp] theorem State.setLs_draws (s : State) (l : LinkState) : (s.setLs l).draws = s.draws := rfl

/-! #### `State.startBody` -/

@[simp] theorem State.startBody_ls (s : State) (v : Serial) : (s.startBody v).ls = .receiving := rfl
@[simp] theorem State.startBody_body (s : State) (v : Serial) : (s.startBody v).body = [] := rfl
@[simp] theorem State.startBody_csum (s : State) (v : Serial) : (s.startBody v).csum = seed s.params v := rfl
@[simp] theorem State.startBody_ackSeen (s : State) (v : Serial) : (s.startBody v).ackSeen = s.ackSeen := rfl
@[simp] theorem State.startBody_rspValid (s : State) (v : Serial) : (s.startBody v).rspValid = s.rspValid := rfl
@[simp] theorem State.startBody_pend (s : State) (v : Serial) : (s.startBody v).pend = s.pend := rfl
@[simp] theorem State.startBody_dlAckValid (s : State) (v : Serial) : (s.startBody v).dlAckValid = s.dlAckValid := rfl
@[simp] theorem State.startBody_variant (s : State) (v : Serial) : (s.startBody v).variant = s.variant := rfl
@[simp] theorem State.startBody_cfgAddr (s : State) (v : Serial) : (s.startBody v).cfgAddr = s.cfgAddr := rfl
@[simp] theorem State.startBody_watch (s : State) (v : Serial) : (s.startBody v).watch = s.watch := rfl
@[simp] theorem State.startBody_isOpen (s : State) (v : Serial) : (s.startBody v).isOpen = s.isOpen := rfl
@[simp] theorem State.startBody_trace (s : State) (v : Serial) : (s.startBody v).trace = s.trace := rfl
@[simp] theorem State.startBody_dlMode (s : State) (v : Serial) : (s.startBody v).dlMode = s.dlMode := rfl
@[simp] theorem State.startBody_rspBuf (s : State) (v : Serial) : (s.startBody v).rspBuf = s.rspBuf := rfl
@[simp] theorem State.startBody_dlAck (s : State) (v : Serial) : (s.startBody v).dlAck = s.dlAck := rfl
@[simp] theorem State.startBody_tx (s : State) (v : Serial) : (s.startBody v).tx = s.tx := rfl
@[simp] theorem State.startBody_ev (s : State) (v : Serial) : (s.startBody v).ev = s.ev := rfl
@[simp] theorem State.startBody_params (s : State) (v : Serial) : (s.startBody v).params = s.params := rfl
@[simp] theorem State.startBody_label (s : State) (v : Serial) : (s.startBody v).label = s.label := rfl
@[simp] theorem State.startBody_result (s : State) (v : Serial) : (s.startBody v).result = s.result := rfl
@[simp] theorem State.startBody_arrivals (s : State) (v : Serial) : (s.startBody v).arrivals = s.arrivals := rfl
@[simp] theorem State.startBody_draws (s : State) (v : Serial) : (s.startBody v).draws = s.draws := rfl

/-! #### `State.pushByte` -/

@[simp] theorem State.pushByte_ls (s : State) (x : Byte) : (s.pushByte x).ls = s.ls := rfl
@[simp] theorem State.pushByte_body (s : State) (x : Byte) : (s.pushByte x).body = s.body ++ [x] := rfl
@[simp] theorem State.pushByte_csum (s : State) (x : Byte) : (s.pushByte x).csum = s.csum + x := rfl
@[simp] theorem State.pushByte_ackSeen (s : State) (x : Byte) : (s.pushByte x).ackSeen = s.ackSeen := rfl
@[simp] theorem State.pushByte_rspValid (s : State) (x : Byte) : (s.pushByte x).rspValid = s.rspValid := rfl
@[simp] theorem State.pushByte_pend (s : State) (x : Byte) : (s.pushByte x).pend = s.pend := rfl
@[simp] theorem State.pushByte_dlAckValid (s : State) (x : Byte) : (s.pushByte x).dlAckValid = s.dlAckValid := rfl
@[simp] theorem State.pushByte_variant (s : State) (x : Byte) : (s.pushByte x).variant = s.variant := rfl
@[simp] theorem State.pushByte_cfgAddr (s : State) (x : Byte) : (s.pushByte x).cfgAddr = s.cfgAddr := rfl
@[simp] theorem State.pushByte_watch (s : State) (x : Byte) : (s.pushByte x).watch = s.watch := rfl
@[simp] theorem State.pushByte_isOpen (s : State) (x : Byte) : (s.pushByte x).isOpen = s.isOpen := rfl
@[simp] theorem State.pushByte_trace (s : State) (x : Byte) : (s.pushByte x).trace = s.trace := rfl
@[simp] theorem State.pushByte_dlMode (s : State) (x : Byte) : (s.pushByte x).dlMode = s.dlMode := rfl
@[simp] theorem State.pushByte_rspBuf (s : State) (x : Byte) : (s.pushByte x).rspBuf = s.rspBuf := rfl
@[simp] theorem State.pushByte_dlAck (s : State) (x : Byte) : (s.pushByte x).dlAck = s.dlAck := rfl
@[simp] theorem State.pushByte_tx (s : State) (x : Byte) : (s.pushByte x).tx = s.tx := rfl
@[simp] theorem State.pushByte_ev (s : State) (x : Byte) : (s.pushByte x).ev = s.ev := rfl
@[simp] theorem State.pushByte_params (s : State) (x : Byte) : (s.pushByte x).params = s.params := rfl
@[simp] theorem State.pushByte_label (s : State) (x : Byte) : (s.pushByte x).label = s.label := rfl
@[simp] theorem State.pushByte_result (s : State) (x : Byte) : (s.pushByte x).result = s.result := rfl
@[simp] theorem State.pushByte_arrivals (s : State) (x : Byte) : (s.pushByte x).arrivals = s.arrivals := rfl
@[simp] theorem State.pushByte_draws (s : State) (x : Byte) : (s.pushByte x).draws = s.draws := rfl

/-! #### `State.setAckSeen` -/

@[simp] theorem State.setAckSeen_ls (s : State) (b : Bool) : (s.setAckSeen b).ls = s.ls := rfl
@[simp] theorem State.setAckSeen_body (s : State) (b : Bool) : (s.setAckSeen b).body = s.body := rfl
@[simp] theorem State.setAckSeen_csum (s : State) (b : Bool) : (s.setAckSeen b).csum = s.csum := rfl
@[simp] theorem State.setAckSeen_ackSeen (s : State) (b : Bool) : (s.setAckSeen b).ackSeen = b := rfl
@[simp] theorem State.setAckSeen_rspValid (s : State) (b : Bool) : (s.setAckSeen b).rspValid = s.rspValid := rfl
@[simp] theorem State.setAckSeen_pend (s : State) (b : Bool) : (s.setAckSeen b).pend = s.pend := rfl
@[simp] theorem State.setAckSeen_dlAckValid (s : State) (b : Bool) : (s.setAckSeen b).dlAckValid = s.dlAckValid := rfl
@[simp] theorem State.setAckSeen_variant (s : State) (b : Bool) : (s.setAckSeen b).variant = s.variant := rfl
@[simp] theorem State.setAckSeen_cfgAddr (s : State) (b : Bool) : (s.setAckSeen b).cfgAddr = s.cfgAddr := rfl
@[simp] theorem State.setAckSeen_watch (s : State) (b : Bool) : (s.setAckSeen b).watch = s.watch := rfl
@[simp] theorem State.setAckSeen_isOpen (s : State) (b : Bool) : (s.setAckSeen b).isOpen = s.isOpen := rfl
@[simp] theorem State.setAckSeen_trace (s : State) (b : Bool) : (s.setAckSeen b).trace = s.trace := rfl
@[simp] theorem State.setAckSeen_dlMode (s : State) (b : Bool) : (s.setAckSeen b).dlMode = s.dlMode := rfl
@[simp] theorem State.setAckSeen_rspBuf (s : State) (b : Bool) : (s.setAckSeen b).rspBuf = s.rspBuf := rfl
@[simp] theorem State.setAckSeen_dlAck (s : State) (b : Bool) : (s.setAckSeen b).dlAck = s.dlAck := rfl
@[simp] theorem State.setAckSeen_tx (s : State) (b : Bool) : (s.setAckSeen b).tx = s.tx := rfl
@[simp] theorem State.setAckSeen_ev (s : State) (b : Bool) : (s.setAckSeen b).ev = s.ev := rfl
@[simp] theorem State.setAckSeen_params (s : State) (b : Bool) : (s.setAckSeen b).params = s.params := rfl
@[simp] theorem State.setAckSeen_label (s : State) (b : Bool) : (s.setAckSeen b).label = s.label := rfl
@[simp] theorem State.setAckSeen_result (s : State) (b : Bool) : (s.setAckSeen b).result = s.result := rfl
@[simp] theorem State.setAckSeen_arrivals (s : State) (b : Bool) : (s.setAckSeen b).arrivals = s.arrivals := rfl
@[simp] theorem State.setAckSeen_draws (s : State) (b : Bool) : (s.setAckSeen b).draws = s.draws := rfl

/-! #### `State.storeResponse` -/

@[simp] theorem State.storeResponse_ls (s : State) (p : List Byte) : (s.storeResponse p).ls = s.ls := rfl
@[simp] theorem State.storeResponse_body (s : State) (p : List Byte) : (s.storeResponse p).body = s.body := rfl
@[simp] theorem State.storeResponse_csum (s : State) (p : List Byte) : (s.storeResponse p).csum = s.csum := rfl
@[simp] theorem State.storeResponse_ackSeen (s : State) (p : List Byte) : (s.storeResponse p).ackSeen = s.ackSeen := rfl
@[simp] theorem State.storeResponse_rspValid (s : State) (p : List Byte) : (s.storeResponse p).rspValid = true := rfl
@[simp] theorem State.storeResponse_pend (s : State) (p : List Byte) : (s.storeResponse p).pend = s.pend := rfl
@[simp] theorem State.storeResponse_dlAckValid (s : State) (p : List Byte) : (s.storeResponse p).dlAckValid = s.dlAckValid := rfl
@[simp] theorem State.storeResponse_variant (s : State) (p : List Byte) : (s.storeResponse p).variant = s.variant := rfl
@[simp] theorem State.storeResponse_cfgAddr (s : State) (p : List Byte) : (s.storeResponse p).cfgAddr = s.cfgAddr := rfl
@[simp] theorem State.storeResponse_watch (s : State) (p : List Byte) : (s.storeResponse p).watch = s.watch := rfl
@[simp] theorem State.storeResponse_isOpen (s : State) (p : List Byte) : (s.storeResponse p).isOpen = s.isOpen := rfl
@[simp] theorem State.storeResponse_trace (s : State) (p : List Byte) : (s.storeResponse p).trace = s.trace := rfl
@[simp] theorem State.storeResponse_dlMode (s : State) (p : List Byte) : (s.storeResponse p).dlMode = s.dlMode := rfl
@[simp] theorem State.storeResponse_rspBuf (s : State) (p : List Byte) : (s.storeResponse p).rspBuf = p := rfl
@[simp] theorem State.storeResponse_dlAck (s : State) (p : List Byte) : (s.storeResponse p).dlAck = s.dlAck := rfl
@[simp] theorem State.storeResponse_tx (s : State) (p : List Byte) : (s.storeResponse p).tx = s.tx := rfl
@[simp] theorem State.storeResponse_ev (s : State) (p : List Byte) : (s.storeResponse p).ev = s.ev := rfl
@[simp] theorem State.storeResponse_params (s : State) (p : List Byte) : (s.storeResponse p).params = s.params := rfl
@[simp] theorem State.storeResponse_label (s : State) (p : List Byte) : (s.storeResponse p).label = s.label := rfl
@[simp] theorem State.storeResponse_result (s : State) (p : List Byte) : (s.storeResponse p).result = s.result := rfl
@[simp] theorem State.storeResponse_arrivals (s : State) (p : List Byte) : (s.storeResponse p).arrivals = s.arrivals := rfl
@[simp] theorem State.storeResponse_draws (s : State) (p : List Byte) : (s.storeResponse p).draws = s.draws := rfl

/-! #### `State.setRspValid` -/

@[simp] theorem State.setRspValid_ls (s : State) (b : Bool) : (s.setRspValid b).ls = s.ls := rfl
@[simp] theorem State.setRspValid_body (s : State) (b : Bool) : (s.setRspValid b).body = s.body := rfl
@[simp] theorem State.setRspValid_csum (s : State) (b : Bool) : (s.setRspValid b).csum = s.csum := rfl
@[simp] theorem State.setRspValid_ackSeen (s : State) (b : Bool) : (s.setRspValid b).ackSeen = s.ackSeen := rfl
@[simp] theorem State.setRspValid_rspValid (s : State) (b : Bool) : (s.setRspValid b).rspValid = b := rfl
@[simp] theorem State.setRspValid_pend (s : State) (b : Bool) : (s.setRspValid b).pend = s.pend := rfl
@[simp] theorem State.setRspValid_dlAckValid (s : State) (b : Bool) : (s.setRspValid b).dlAckValid = s.dlAckValid := rfl
@[simp] theorem State.setRspValid_variant (s : State) (b : Bool) : (s.setRspValid b).variant = s.variant := rfl
@[simp] theorem State.setRspValid_cfgAddr (s : State) (b : Bool) : (s.setRspValid b).cfgAddr = s.cfgAddr := rfl
@[simp] theorem State.setRspValid_watch (s : State) (b : Bool) : (s.setRspValid b).watch = s.watch := rfl
@[simp] theorem State.setRspValid_isOpen (s : State) (b : Bool) : (s.setRspValid b).isOpen = s.isOpen := rfl
@[simp] theorem State.setRspValid_trace (s : State) (b : Bool) : (s.setRspValid b).trace = s.trace := rfl
@[simp] theorem State.setRspValid_dlMode (s : State) (b : Bool) : (s.setRspValid b).dlMode = s.dlMode := rfl
@[simp] theorem State.setRspValid_rspBuf (s : State) (b : Bool) : (s.setRspValid b).rspBuf = s.rspBuf := rfl
@[simp] theorem State.setRspValid_dlAck (s : State) (b : Bool) : (s.setRspValid b).dlAck = s.dlAck := rfl
@[simp] theorem State.setRspValid_tx (s : State) (b : Bool) : (s.setRspValid b).tx = s.tx := rfl
@[simp] theorem State.setRspValid_ev (s : State) (b : Bool) : (s.setRspValid b).ev = s.ev := rfl
@[simp] theorem State.setRspValid_params (s : State) (b : Bool) : (s.setRspValid b).params = s.params := rfl
@[simp] theorem State.setRspValid_label (s : State) (b : Bool) : (s.setRspValid b).label = s.label := rfl
@[simp] theorem State.setRspValid_result (s : State) (b : Bool) : (s.setRspValid b).result = s.result := rfl
@[simp] theorem State.setRspValid_arrivals (s : State) (b : Bool) : (s.setRspValid b).arrivals = s.arrivals := rfl
@[simp] theorem State.setRspValid_draws (s : State) (b : Bool) : (s.setRspValid b).draws = s.draws := rfl

/-! #### `State.setPend` -/

@[simp] theorem State.setPend_ls (s : State) (b : Bool) : (s.setPend b).ls = s.ls := rfl
@[simp] theorem State.setPend_body (s : State) (b : Bool) : (s.setPend b).body = s.body := rfl
@[simp] theorem State.setPend_csum (s : State) (b : Bool) : (s.setPend b).csum = s.csum := rfl
@[simp] theorem State.setPend_ackSeen (s : State) (b : Bool) : (s.setPend b).ackSeen = s.ackSeen := rfl
@[simp] theorem State.setPend_rspValid (s : State) (b : Bool) : (s.setPend b).rspValid = s.rspValid := rfl
@[simp] theorem State.setPend_pend (s : State) (b : Bool) : (s.setPend b).pend = b := rfl
@[simp] theorem State.setPend_dlAckValid (s : State) (b : Bool) : (s.setPend b).dlAckValid = s.dlAckValid := rfl
@[simp] theorem State.setPend_variant (s : State) (b : Bool) : (s.setPend b).variant = s.variant := rfl
@[simp] theorem State.setPend_cfgAddr (s : State) (b : Bool) : (s.setPend b).cfgAddr = s.cfgAddr := rfl
@[simp] theorem State.setPend_watch (s : State) (b : Bool) : (s.setPend b).watch = s.watch := rfl
@[simp] theorem State.setPend_isOpen (s : State) (b : Bool) : (s.setPend b).isOpen = s.isOpen := rfl
@[simp] theorem State.setPend_trace (s : State) (b : Bool) : (s.setPend b).trace = s.trace := rfl
@[simp] theorem State.setPend_dlMode (s : State) (b : Bool) : (s.setPend b).dlMode = s.dlMode := rfl
@[simp] theorem State.setPend_rspBuf (s : State) (b : Bool) : (s.setPend b).rspBuf = s.rspBuf := rfl
@[simp] theorem State.setPend_dlAck (s : State) (b : Bool) : (s.setPend b).dlAck = s.dlAck := rfl
@[simp] theorem State.setPend_tx (s : State) (b : Bool) : (s.setPend b).tx = s.tx := rfl
@[simp] theorem State.setPend_ev (s : State) (b : Bool) : (s.setPend b).ev = s.ev := rfl
@[simp] theorem State.setPend_params (s : State) (b : Bool) : (s.setPend b).params = s.params := rfl
@[simp] theorem State.setPend_label (s : State) (b : Bool) : (s.setPend b).label = s.label := rfl
@[simp] theorem State.setPend_result (s : State) (b : Bool) : (s.setPend b).result = s.result := rfl
@[simp] theorem State.setPend_arrivals (s : State) (b : Bool) : (s.setPend b).arrivals = s.arrivals := rfl
@[simp] theorem State.setPend_draws (s : State) (b : Bool) : (s.setPend b).draws = s.draws := rfl

/-! #### `State.setOpen` -/

@[simp] theorem State.setOpen_ls (s : State) (b : Bool) : (s.setOpen b).ls = s.ls := rfl
@[simp] theorem State.setOpen_body (s : State) (b : Bool) : (s.setOpen b).body = s.body := rfl
@[simp] theorem State.setOpen_csum (s : State) (b : Bool) : (s.setOpen b).csum = s.csum := rfl
@[simp] theorem State.setOpen_ackSeen (s : State) (b : Bool) : (s.setOpen b).ackSeen = s.ackSeen := rfl
@[simp] theorem State.setOpen_rspValid (s : State) (b : Bool) : (s.setOpen b).rspValid = s.rspValid := rfl
@[simp] theorem State.setOpen_pend (s : State) (b : Bool) : (s.setOpen b).pend = s.pend := rfl
@[simp] theorem State.setOpen_dlAckValid (s : State) (b : Bool) : (s.setOpen b).dlAckValid = s.dlAckValid := rfl
@[simp] theorem State.setOpen_variant (s : State) (b : Bool) : (s.setOpen b).variant = s.variant := rfl
@[simp] theorem State.setOpen_cfgAddr (s : State) (b : Bool) : (s.setOpen b).cfgAddr = s.cfgAddr := rfl
@[simp] theorem State.setOpen_watch (s : State) (b : Bool) : (s.setOpen b).watch = s.watch := rfl
@[simp] theorem State.setOpen_isOpen (s : State) (b : Bool) : (s.setOpen b).isOpen = b := rfl
@[simp] theorem State.setOpen_trace (s : State) (b : Bool) : (s.setOpen b).trace = s.trace := rfl
@[simp] theorem State.setOpen_dlMode (s : State) (b : Bool) : (s.setOpen b).dlMode = s.dlMode := rfl
@[simp] theorem State.setOpen_rspBuf (s : State) (b : Bool) : (s.setOpen b).rspBuf = s.rspBuf := rfl
@[simp] theorem State.setOpen_dlAck (s : State) (b : Bool) : (s.setOpen b).dlAck = s.dlAck := rfl
@[simp] theorem State.setOpen_tx (s : State) (b : Bool) : (s.setOpen b).tx = s.tx := rfl
@[simp] theorem State.setOpen_ev (s : State) (b : Bool) : (s.setOpen b).ev = s.ev := rfl
@[simp] theorem State.setOpen_params (s : State) (b : Bool) : (s.setOpen b).params = s.params := rfl
@[simp] theorem State.setOpen_label (s : State) (b : Bool) : (s.setOpen b).label = s.label := rfl
@[simp] theorem State.setOpen_result (s : State) (b : Bool) : (s.setOpen b).result = s.result := rfl
@[simp] theorem State.setOpen_arrivals (s : State) (b : Bool) : (s.setOpen b).arrivals = s.arrivals := rfl
@[simp] theorem State.setOpen_draws (s : State) (b : Bool) : (s.setOpen b).draws = s.draws := rfl

/-! #### `State.captureRaw` -/

@[simp] theorem State.captureRaw_ls (s : State) (b : Byte) : (s.captureRaw b).ls = s.ls := rfl
@[simp] theorem State.captureRaw_body (s : State) (b : Byte) : (s.captureRaw b).body = s.body := rfl
@[simp] theorem State.captureRaw_csum (s : State) (b : Byte) : (s.captureRaw b).csum = s.csum := rfl
@[simp] theorem State.captureRaw_ackSeen (s : State) (b : Byte) : (s.captureRaw b).ackSeen = s.ackSeen := rfl
@[simp] theorem State.captureRaw_rspValid (s : State) (b : Byte) : (s.captureRaw b).rspValid = s.rspValid := rfl
@[simp] theorem State.captureRaw_pend (s : State) (b : Byte) : (s.captureRaw b).pend = s.pend := rfl
@[simp] theorem State.captureRaw_dlAckValid (s : State) (b : Byte) : (s.captureRaw b).dlAckValid = true := rfl
@[simp] theorem State.captureRaw_variant (s : State) (b : Byte) : (s.captureRaw b).variant = s.variant := rfl
@[simp] theorem State.captureRaw_cfgAddr (s : State) (b : Byte) : (s.captureRaw b).cfgAddr = s.cfgAddr := rfl
@[simp] theorem State.captureRaw_watch (s : State) (b : Byte) : (s.captureRaw b).watch = s.watch := rfl
@[simp] theorem State.captureRaw_isOpen (s : State) (b : Byte) : (s.captureRaw b).isOpen = s.isOpen := rfl
@[simp] theorem State.captureRaw_trace (s : State) (b : Byte) : (s.captureRaw b).trace = s.trace := rfl
@[simp] theorem State.captureRaw_dlMode (s : State) (b : Byte) : (s.captureRaw b).dlMode = s.dlMode := rfl
@[simp] theorem State.captureRaw_rspBuf (s : State) (b : Byte) : (s.captureRaw b).rspBuf = s.rspBuf := rfl
@[simp] theorem State.captureRaw_dlAck (s : State) (b : Byte) : (s.captureRaw b).dlAck = b := rfl
@[simp] theorem State.captureRaw_tx (s : State) (b : Byte) : (s.captureRaw b).tx = s.tx := rfl
@[simp] theorem State.captureRaw_ev (s : State) (b : Byte) : (s.captureRaw b).ev = s.ev := rfl
@[simp] theorem State.captureRaw_params (s : State) (b : Byte) : (s.captureRaw b).params = s.params := rfl
@[simp] theorem State.captureRaw_label (s : State) (b : Byte) : (s.captureRaw b).label = s.label := rfl
@[simp] theorem State.captureRaw_result (s : State) (b : Byte) : (s.captureRaw b).result = s.result := rfl
@[simp] theorem State.captureRaw_arrivals (s : State) (b : Byte) : (s.captureRaw b).arrivals = s.arrivals := rfl
@[simp] theorem State.captureRaw_draws (s : State) (b : Byte) : (s.captureRaw b).draws = s.draws := rfl

/-! #### `State.setDlAckValid` -/

@[simp] theorem State.setDlAckValid_ls (s : State) (b : Bool) : (s.setDlAckValid b).ls = s.ls := rfl
@[simp] theorem State.setDlAckValid_body (s : State) (b : Bool) : (s.setDlAckValid b).body = s.body := rfl
@[simp] theorem State.setDlAckValid_csum (s : State) (b : Bool) : (s.setDlAckValid b).csum = s.csum := rfl
@[simp] theorem State.setDlAckValid_ackSeen (s : State) (b : Bool) : (s.setDlAckValid b).ackSeen = s.ackSeen := rfl
@[simp] theorem State.setDlAckValid_rspValid (s : State) (b : Bool) : (s.setDlAckValid b).rspValid = s.rspValid := rfl
@[simp] theorem State.setDlAckValid_pend (s : State) (b : Bool) : (s.setDlAckValid b).pend = s.pend := rfl
@[simp] theorem State.setDlAckValid_dlAckValid (s : State) (b : Bool) : (s.setDlAckValid b).dlAckValid = b := rfl
@[simp] theorem State.setDlAckValid_variant (s : State) (b : Bool) : (s.setDlAckValid b).variant = s.variant := rfl
@[simp] theorem State.setDlAckValid_cfgAddr (s : State) (b : Bool) : (s.setDlAckValid b).cfgAddr = s.cfgAddr := rfl
@[simp] theorem State.setDlAckValid_watch (s : State) (b : Bool) : (s.setDlAckValid b).watch = s.watch := rfl
@[simp] theorem State.setDlAckValid_isOpen (s : State) (b : Bool) : (s.setDlAckValid b).isOpen = s.isOpen := rfl
@[simp] theorem State.setDlAckValid_trace (s : State) (b : Bool) : (s.setDlAckValid b).trace = s.trace := rfl
@[simp] theorem State.setDlAckValid_dlMode (s : State) (b : Bool) : (s.setDlAckValid b).dlMode = s.dlMode := rfl
@[simp] theorem State.setDlAckValid_rspBuf (s : State) (b : Bool) : (s.setDlAckValid b).rspBuf = s.rspBuf := rfl
@[simp] theorem State.setDlAckValid_dlAck (s : State) (b : Bool) : (s.setDlAckValid b).dlAck = s.dlAck := rfl
@[simp] theorem State.setDlAckValid_tx (s : State) (b : Bool) : (s.setDlAckValid b).tx = s.tx := rfl
@[simp] theorem State.setDlAckValid_ev (s : State) (b : Bool) : (s.setDlAckValid b).ev = s.ev := rfl
@[simp] theorem State.setDlAckValid_params (s : State) (b : Bool) : (s.setDlAckValid b).params = s.params := rfl
@[simp] theorem State.setDlAckValid_label (s : State) (b : Bool) : (s.setDlAckValid b).label = s.label := rfl
@[simp] theorem State.setDlAckValid_result (s : State) (b : Bool) : (s.setDlAckValid b).result = s.result := rfl
@[simp] theorem State.setDlAckValid_arrivals (s : State) (b : Bool) : (s.setDlAckValid b).arrivals = s.arrivals := rfl
@[simp] theorem State.setDlAckValid_draws (s : State) (b : Bool) : (s.setDlAckValid b).draws = s.draws := rfl

/-! #### `State.setDlMode` -/

@[simp] theorem State.setDlMode_ls (s : State) (b : Bool) : (s.setDlMode b).ls = s.ls := rfl
@[simp] theorem State.setDlMode_body (s : State) (b : Bool) : (s.setDlMode b).body = s.body := rfl
@[simp] theorem State.setDlMode_csum (s : State) (b : Bool) : (s.setDlMode b).csum = s.csum := rfl
@[simp] theorem State.setDlMode_ackSeen (s : State) (b : Bool) : (s.setDlMode b).ackSeen = s.ackSeen := rfl
@[simp] theorem State.setDlMode_rspValid (s : State) (b : Bool) : (s.setDlMode b).rspValid = s.rspValid := rfl
@[simp] theorem State.setDlMode_pend (s : State) (b : Bool) : (s.setDlMode b).pend = s.pend := rfl
@[simp] theorem State.setDlMode_dlAckValid (s : State) (b : Bool) : (s.setDlMode b).dlAckValid = s.dlAckValid := rfl
@[simp] theorem State.setDlMode_variant (s : State) (b : Bool) : (s.setDlMode b).variant = s.variant := rfl
@[simp] theorem State.setDlMode_cfgAddr (s : State) (b : Bool) : (s.setDlMode b).cfgAddr = s.cfgAddr := rfl
@[simp] theorem State.setDlMode_watch (s : State) (b : Bool) : (s.setDlMode b).watch = s.watch := rfl
@[simp] theorem State.setDlMode_isOpen (s : State) (b : Bool) : (s.setDlMode b).isOpen = s.isOpen := rfl
@[simp] theorem State.setDlMode_trace (s : State) (b : Bool) : (s.setDlMode b).trace = s.trace := rfl
@[simp] theorem State.setDlMode_dlMode (s : State) (b : Bool) : (s.setDlMode b).dlMode = b := rfl
@[simp] theorem State.setDlMode_rspBuf (s : State) (b : Bool) : (s.setDlMode b).rspBuf = s.rspBuf := rfl
@[simp] theorem State.setDlMode_dlAck (s : State) (b : Bool) : (s.setDlMode b).dlAck = s.dlAck := rfl
@[simp] theorem State.setDlMode_tx (s : State) (b : Bool) : (s.setDlMode b).tx = s.tx := rfl
@[simp] theorem State.setDlMode_ev (s : State) (b : Bool) : (s.setDlMode b).ev = s.ev := rfl
@[simp] theorem State.setDlMode_params (s : State) (b : Bool) : (s.setDlMode b).params = s.params := rfl
@[simp] theorem State.setDlMode_label (s : State) (b : Bool) : (s.setDlMode b).label = s.label := rfl
@[simp] theorem State.setDlMode_result (s : State) (b : Bool) : (s.setDlMode b).result = s.result := rfl
@[simp] theorem State.setDlMode_arrivals (s : State) (b : Bool) : (s.setDlMode b).arrivals = s.arrivals := rfl
@[simp] theorem State.setDlMode_draws (s : State) (b : Bool) : (s.setDlMode b).draws = s.draws := rfl

/-! #### `State.setTrace` -/

@[simp] theorem State.setTrace_ls (s : State) (b : Bool) : (s.setTrace b).ls = s.ls := rfl
@[simp] theorem State.setTrace_body (s : State) (b : Bool) : (s.setTrace b).body = s.body := rfl
@[simp] theorem State.setTrace_csum (s : State) (b : Bool) : (s.setTrace b).csum = s.csum := rfl
@[simp] theorem State.setTrace_ackSeen (s : State) (b : Bool) : (s.setTrace b).ackSeen = s.ackSeen := rfl
@[simp] theorem State.setTrace_rspValid (s : State) (b : Bool) : (s.setTrace b).rspValid = s.rspValid := rfl
@[simp] theorem State.setTrace_pend (s : State) (b : Bool) : (s.setTrace b).pend = s.pend := rfl
@[simp] theorem State.setTrace_dlAckValid (s : State) (b : Bool) : (s.setTrace b).dlAckValid = s.dlAckValid := rfl
@[simp] theorem State.setTrace_variant (s : State) (b : Bool) : (s.setTrace b).variant = s.variant := rfl
@[simp] theorem State.setTrace_cfgAddr (s : State) (b : Bool) : (s.setTrace b).cfgAddr = s.cfgAddr := rfl
@[simp] theorem State.setTrace_watch (s : State) (b : Bool) : (s.setTrace b).watch = s.watch := rfl
@[simp] theorem State.setTrace_isOpen (s : State) (b : Bool) : (s.setTrace b).isOpen = s.isOpen := rfl
@[simp] theorem State.setTrace_trace (s : State) (b : Bool) : (s.setTrace b).trace = b := rfl
@[simp] theorem State.setTrace_dlMode (s : State) (b : Bool) : (s.setTrace b).dlMode = s.dlMode := rfl
@[simp] theorem State.setTrace_rspBuf (s : State) (b : Bool) : (s.setTrace b).rspBuf = s.rspBuf := rfl
@[simp] theorem State.setTrace_dlAck (s : State) (b : Bool) : (s.setTrace b).dlAck = s.dlAck := rfl
@[simp] theorem State.setTrace_tx (s : State) (b : Bool) : (s.setTrace b).tx = s.tx := rfl
@[simp] theorem State.setTrace_ev (s : State) (b : Bool) : (s.setTrace b).ev = s.ev := rfl
@[simp] theorem State.setTrace_params (s : State) (b : Bool) : (s.setTrace b).params = s.params := rfl
@[simp] theorem State.setTrace_label (s : State) (b : Bool) : (s.setTrace b).label = s.label := rfl
@[simp] theorem State.setTrace_result (s : State) (b : Bool) : (s.setTrace b).result = s.result := rfl
@[simp] theorem State.setTrace_arrivals (s : State) (b : Bool) : (s.setTrace b).arrivals = s.arrivals := rfl
@[simp] theorem State.setTrace_draws (s : State) (b : Bool) : (s.setTrace b).draws = s.draws := rfl

/-! #### `State.setConfig` -/

@[simp] theorem State.setConfig_ls (s : State) (v : Variant) (a : BitVec 5) (w : BitVec 256) : (s.setConfig v a w).ls = s.ls := rfl
@[simp] theorem State.setConfig_body (s : State) (v : Variant) (a : BitVec 5) (w : BitVec 256) : (s.setConfig v a w).body = s.body := rfl
@[simp] theorem State.setConfig_csum (s : State) (v : Variant) (a : BitVec 5) (w : BitVec 256) : (s.setConfig v a w).csum = s.csum := rfl
@[simp] theorem State.setConfig_ackSeen (s : State) (v : Variant) (a : BitVec 5) (w : BitVec 256) : (s.setConfig v a w).ackSeen = s.ackSeen := rfl
@[simp] theorem State.setConfig_rspValid (s : State) (v : Variant) (a : BitVec 5) (w : BitVec 256) : (s.setConfig v a w).rspValid = s.rspValid := rfl
@[simp] theorem State.setConfig_pend (s : State) (v : Variant) (a : BitVec 5) (w : BitVec 256) : (s.setConfig v a w).pend = s.pend := rfl
@[simp] theorem State.setConfig_dlAckValid (s : State) (v : Variant) (a : BitVec 5) (w : BitVec 256) : (s.setConfig v a w).dlAckValid = s.dlAckValid := rfl
@[simp] theorem State.setConfig_variant (s : State) (v : Variant) (a : BitVec 5) (w : BitVec 256) : (s.setConfig v a w).variant = v := rfl
@[simp] theorem State.setConfig_cfgAddr (s : State) (v : Variant) (a : BitVec 5) (w : BitVec 256) : (s.setConfig v a w).cfgAddr = a := rfl
@[simp] theorem State.setConfig_watch (s : State) (v : Variant) (a : BitVec 5) (w : BitVec 256) : (s.setConfig v a w).watch = w := rfl
@[simp] theorem State.setConfig_isOpen (s : State) (v : Variant) (a : BitVec 5) (w : BitVec 256) : (s.setConfig v a w).isOpen = s.isOpen := rfl
@[simp] theorem State.setConfig_trace (s : State) (v : Variant) (a : BitVec 5) (w : BitVec 256) : (s.setConfig v a w).trace = s.trace := rfl
@[simp] theorem State.setConfig_dlMode (s : State) (v : Variant) (a : BitVec 5) (w : BitVec 256) : (s.setConfig v a w).dlMode = s.dlMode := rfl
@[simp] theorem State.setConfig_rspBuf (s : State) (v : Variant) (a : BitVec 5) (w : BitVec 256) : (s.setConfig v a w).rspBuf = s.rspBuf := rfl
@[simp] theorem State.setConfig_dlAck (s : State) (v : Variant) (a : BitVec 5) (w : BitVec 256) : (s.setConfig v a w).dlAck = s.dlAck := rfl
@[simp] theorem State.setConfig_tx (s : State) (v : Variant) (a : BitVec 5) (w : BitVec 256) : (s.setConfig v a w).tx = s.tx := rfl
@[simp] theorem State.setConfig_ev (s : State) (v : Variant) (a : BitVec 5) (w : BitVec 256) : (s.setConfig v a w).ev = s.ev := rfl
@[simp] theorem State.setConfig_params (s : State) (v : Variant) (a : BitVec 5) (w : BitVec 256) : (s.setConfig v a w).params = s.params := rfl
@[simp] theorem State.setConfig_label (s : State) (v : Variant) (a : BitVec 5) (w : BitVec 256) : (s.setConfig v a w).label = s.label := rfl
@[simp] theorem State.setConfig_result (s : State) (v : Variant) (a : BitVec 5) (w : BitVec 256) : (s.setConfig v a w).result = s.result := rfl
@[simp] theorem State.setConfig_arrivals (s : State) (v : Variant) (a : BitVec 5) (w : BitVec 256) : (s.setConfig v a w).arrivals = s.arrivals := rfl
@[simp] theorem State.setConfig_draws (s : State) (v : Variant) (a : BitVec 5) (w : BitVec 256) : (s.setConfig v a w).draws = s.draws := rfl

/-! #### `State.emitTx` -/

@[simp] theorem State.emitTx_ls (s : State) (bs : List Byte) : (s.emitTx bs).ls = s.ls := rfl
@[simp] theorem State.emitTx_body (s : State) (bs : List Byte) : (s.emitTx bs).body = s.body := rfl
@[simp] theorem State.emitTx_csum (s : State) (bs : List Byte) : (s.emitTx bs).csum = s.csum := rfl
@[simp] theorem State.emitTx_ackSeen (s : State) (bs : List Byte) : (s.emitTx bs).ackSeen = s.ackSeen := rfl
@[simp] theorem State.emitTx_rspValid (s : State) (bs : List Byte) : (s.emitTx bs).rspValid = s.rspValid := rfl
@[simp] theorem State.emitTx_pend (s : State) (bs : List Byte) : (s.emitTx bs).pend = s.pend := rfl
@[simp] theorem State.emitTx_dlAckValid (s : State) (bs : List Byte) : (s.emitTx bs).dlAckValid = s.dlAckValid := rfl
@[simp] theorem State.emitTx_variant (s : State) (bs : List Byte) : (s.emitTx bs).variant = s.variant := rfl
@[simp] theorem State.emitTx_cfgAddr (s : State) (bs : List Byte) : (s.emitTx bs).cfgAddr = s.cfgAddr := rfl
@[simp] theorem State.emitTx_watch (s : State) (bs : List Byte) : (s.emitTx bs).watch = s.watch := rfl
@[simp] theorem State.emitTx_isOpen (s : State) (bs : List Byte) : (s.emitTx bs).isOpen = s.isOpen := rfl
@[simp] theorem State.emitTx_trace (s : State) (bs : List Byte) : (s.emitTx bs).trace = s.trace := rfl
@[simp] theorem State.emitTx_dlMode (s : State) (bs : List Byte) : (s.emitTx bs).dlMode = s.dlMode := rfl
@[simp] theorem State.emitTx_rspBuf (s : State) (bs : List Byte) : (s.emitTx bs).rspBuf = s.rspBuf := rfl
@[simp] theorem State.emitTx_dlAck (s : State) (bs : List Byte) : (s.emitTx bs).dlAck = s.dlAck := rfl
@[simp] theorem State.emitTx_tx (s : State) (bs : List Byte) : (s.emitTx bs).tx = s.tx ++ bs := rfl
@[simp] theorem State.emitTx_ev (s : State) (bs : List Byte) : (s.emitTx bs).ev = s.ev := rfl
@[simp] theorem State.emitTx_params (s : State) (bs : List Byte) : (s.emitTx bs).params = s.params := rfl
@[simp] theorem State.emitTx_label (s : State) (bs : List Byte) : (s.emitTx bs).label = s.label := rfl
@[simp] theorem State.emitTx_result (s : State) (bs : List Byte) : (s.emitTx bs).result = s.result := rfl
@[simp] theorem State.emitTx_arrivals (s : State) (bs : List Byte) : (s.emitTx bs).arrivals = s.arrivals := rfl
@[simp] theorem State.emitTx_draws (s : State) (bs : List Byte) : (s.emitTx bs).draws = s.draws := rfl

/-! #### `State.emitEv` -/

@[simp] theorem State.emitEv_ls (s : State) (e : Event) : (s.emitEv e).ls = s.ls := rfl
@[simp] theorem State.emitEv_body (s : State) (e : Event) : (s.emitEv e).body = s.body := rfl
@[simp] theorem State.emitEv_csum (s : State) (e : Event) : (s.emitEv e).csum = s.csum := rfl
@[simp] theorem State.emitEv_ackSeen (s : State) (e : Event) : (s.emitEv e).ackSeen = s.ackSeen := rfl
@[simp] theorem State.emitEv_rspValid (s : State) (e : Event) : (s.emitEv e).rspValid = s.rspValid := rfl
@[simp] theorem State.emitEv_pend (s : State) (e : Event) : (s.emitEv e).pend = s.pend := rfl
@[simp] theorem State.emitEv_dlAckValid (s : State) (e : Event) : (s.emitEv e).dlAckValid = s.dlAckValid := rfl
@[simp] theorem State.emitEv_variant (s : State) (e : Event) : (s.emitEv e).variant = s.variant := rfl
@[simp] theorem State.emitEv_cfgAddr (s : State) (e : Event) : (s.emitEv e).cfgAddr = s.cfgAddr := rfl
@[simp] theorem State.emitEv_watch (s : State) (e : Event) : (s.emitEv e).watch = s.watch := rfl
@[simp] theorem State.emitEv_isOpen (s : State) (e : Event) : (s.emitEv e).isOpen = s.isOpen := rfl
@[simp] theorem State.emitEv_trace (s : State) (e : Event) : (s.emitEv e).trace = s.trace := rfl
@[simp] theorem State.emitEv_dlMode (s : State) (e : Event) : (s.emitEv e).dlMode = s.dlMode := rfl
@[simp] theorem State.emitEv_rspBuf (s : State) (e : Event) : (s.emitEv e).rspBuf = s.rspBuf := rfl
@[simp] theorem State.emitEv_dlAck (s : State) (e : Event) : (s.emitEv e).dlAck = s.dlAck := rfl
@[simp] theorem State.emitEv_tx (s : State) (e : Event) : (s.emitEv e).tx = s.tx := rfl
@[simp] theorem State.emitEv_ev (s : State) (e : Event) : (s.emitEv e).ev = s.ev ++ [e] := rfl
@[simp] theorem State.emitEv_params (s : State) (e : Event) : (s.emitEv e).params = s.params := rfl
@[simp] theorem State.emitEv_label (s : State) (e : Event) : (s.emitEv e).label = s.label := rfl
@[simp] theorem State.emitEv_result (s : State) (e : Event) : (s.emitEv e).result = s.result := rfl
@[simp] theorem State.emitEv_arrivals (s : State) (e : Event) : (s.emitEv e).arrivals = s.arrivals := rfl
@[simp] theorem State.emitEv_draws (s : State) (e : Event) : (s.emitEv e).draws = s.draws := rfl

/-! #### `State.openSession` -/

@[simp] theorem State.openSession_ls (s : State) : s.openSession.ls = .idle := rfl
@[simp] theorem State.openSession_body (s : State) : s.openSession.body = [] := rfl
@[simp] theorem State.openSession_csum (s : State) : s.openSession.csum = 0 := rfl
@[simp] theorem State.openSession_ackSeen (s : State) : s.openSession.ackSeen = false := rfl
@[simp] theorem State.openSession_rspValid (s : State) : s.openSession.rspValid = false := rfl
@[simp] theorem State.openSession_pend (s : State) : s.openSession.pend = s.pend := rfl
@[simp] theorem State.openSession_dlAckValid (s : State) : s.openSession.dlAckValid = false := rfl
@[simp] theorem State.openSession_variant (s : State) : s.openSession.variant = s.variant := rfl
@[simp] theorem State.openSession_cfgAddr (s : State) : s.openSession.cfgAddr = s.cfgAddr := rfl
@[simp] theorem State.openSession_watch (s : State) : s.openSession.watch = s.watch := rfl
@[simp] theorem State.openSession_isOpen (s : State) : s.openSession.isOpen = true := rfl
@[simp] theorem State.openSession_trace (s : State) : s.openSession.trace = s.trace := rfl
@[simp] theorem State.openSession_dlMode (s : State) : s.openSession.dlMode = false := rfl
@[simp] theorem State.openSession_rspBuf (s : State) : s.openSession.rspBuf = [] := rfl
@[simp] theorem State.openSession_dlAck (s : State) : s.openSession.dlAck = s.dlAck := rfl
@[simp] theorem State.openSession_tx (s : State) : s.openSession.tx = s.tx := rfl
@[simp] theorem State.openSession_ev (s : State) : s.openSession.ev = s.ev := rfl
@[simp] theorem State.openSession_params (s : State) : s.openSession.params = s.params := rfl
@[simp] theorem State.openSession_label (s : State) : s.openSession.label = s.label := rfl
@[simp] theorem State.openSession_result (s : State) : s.openSession.result = s.result := rfl
@[simp] theorem State.openSession_arrivals (s : State) : s.openSession.arrivals = s.arrivals := rfl
@[simp] theorem State.openSession_draws (s : State) : s.openSession.draws = s.draws := rfl

/-! #### `State.resetRegisters` -/

@[simp] theorem State.resetRegisters_ls (s : State) : s.resetRegisters.ls = .idle := rfl
@[simp] theorem State.resetRegisters_body (s : State) : s.resetRegisters.body = [] := rfl
@[simp] theorem State.resetRegisters_csum (s : State) : s.resetRegisters.csum = 0 := rfl
@[simp] theorem State.resetRegisters_ackSeen (s : State) : s.resetRegisters.ackSeen = false := rfl
@[simp] theorem State.resetRegisters_rspValid (s : State) : s.resetRegisters.rspValid = false := rfl
@[simp] theorem State.resetRegisters_pend (s : State) : s.resetRegisters.pend = false := rfl
@[simp] theorem State.resetRegisters_dlAckValid (s : State) : s.resetRegisters.dlAckValid = false := rfl
@[simp] theorem State.resetRegisters_variant (s : State) : s.resetRegisters.variant = .usb := rfl
@[simp] theorem State.resetRegisters_cfgAddr (s : State) : s.resetRegisters.cfgAddr = 0 := rfl
@[simp] theorem State.resetRegisters_watch (s : State) : s.resetRegisters.watch = 0 := rfl
@[simp] theorem State.resetRegisters_isOpen (s : State) : s.resetRegisters.isOpen = false := rfl
@[simp] theorem State.resetRegisters_trace (s : State) : s.resetRegisters.trace = false := rfl
@[simp] theorem State.resetRegisters_dlMode (s : State) : s.resetRegisters.dlMode = false := rfl
@[simp] theorem State.resetRegisters_rspBuf (s : State) : s.resetRegisters.rspBuf = [] := rfl
@[simp] theorem State.resetRegisters_dlAck (s : State) : s.resetRegisters.dlAck = Config.dlAckAfterReset s.draws := rfl
@[simp] theorem State.resetRegisters_tx (s : State) : s.resetRegisters.tx = s.tx := rfl
@[simp] theorem State.resetRegisters_ev (s : State) : s.resetRegisters.ev = s.ev := rfl
@[simp] theorem State.resetRegisters_params (s : State) : s.resetRegisters.params = s.params := rfl
@[simp] theorem State.resetRegisters_label (s : State) : s.resetRegisters.label = s.label := rfl
@[simp] theorem State.resetRegisters_result (s : State) : s.resetRegisters.result = s.result := rfl
@[simp] theorem State.resetRegisters_arrivals (s : State) : s.resetRegisters.arrivals = s.arrivals := rfl
@[simp] theorem State.resetRegisters_draws (s : State) : s.resetRegisters.draws = s.draws + 1 := rfl

/-! #### `State.countDraw` -/

@[simp] theorem State.countDraw_ls (s : State) : s.countDraw.ls = s.ls := rfl
@[simp] theorem State.countDraw_body (s : State) : s.countDraw.body = s.body := rfl
@[simp] theorem State.countDraw_csum (s : State) : s.countDraw.csum = s.csum := rfl
@[simp] theorem State.countDraw_ackSeen (s : State) : s.countDraw.ackSeen = s.ackSeen := rfl
@[simp] theorem State.countDraw_rspValid (s : State) : s.countDraw.rspValid = s.rspValid := rfl
@[simp] theorem State.countDraw_pend (s : State) : s.countDraw.pend = s.pend := rfl
@[simp] theorem State.countDraw_dlAckValid (s : State) : s.countDraw.dlAckValid = s.dlAckValid := rfl
@[simp] theorem State.countDraw_variant (s : State) : s.countDraw.variant = s.variant := rfl
@[simp] theorem State.countDraw_cfgAddr (s : State) : s.countDraw.cfgAddr = s.cfgAddr := rfl
@[simp] theorem State.countDraw_watch (s : State) : s.countDraw.watch = s.watch := rfl
@[simp] theorem State.countDraw_isOpen (s : State) : s.countDraw.isOpen = s.isOpen := rfl
@[simp] theorem State.countDraw_trace (s : State) : s.countDraw.trace = s.trace := rfl
@[simp] theorem State.countDraw_dlMode (s : State) : s.countDraw.dlMode = s.dlMode := rfl
@[simp] theorem State.countDraw_rspBuf (s : State) : s.countDraw.rspBuf = s.rspBuf := rfl
@[simp] theorem State.countDraw_dlAck (s : State) : s.countDraw.dlAck = s.dlAck := rfl
@[simp] theorem State.countDraw_tx (s : State) : s.countDraw.tx = s.tx := rfl
@[simp] theorem State.countDraw_ev (s : State) : s.countDraw.ev = s.ev := rfl
@[simp] theorem State.countDraw_params (s : State) : s.countDraw.params = s.params := rfl
@[simp] theorem State.countDraw_label (s : State) : s.countDraw.label = s.label := rfl
@[simp] theorem State.countDraw_result (s : State) : s.countDraw.result = s.result := rfl
@[simp] theorem State.countDraw_arrivals (s : State) : s.countDraw.arrivals = s.arrivals := rfl
@[simp] theorem State.countDraw_draws (s : State) : s.countDraw.draws = s.draws + 1 := rfl

/-! #### `State.setArrivals` -/

@[simp] theorem State.setArrivals_ls (s : State) (as : List Arrival) : (s.setArrivals as).ls = s.ls := rfl
@[simp] theorem State.setArrivals_body (s : State) (as : List Arrival) : (s.setArrivals as).body = s.body := rfl
@[simp] theorem State.setArrivals_csum (s : State) (as : List Arrival) : (s.setArrivals as).csum = s.csum := rfl
@[simp] theorem State.setArrivals_ackSeen (s : State) (as : List Arrival) : (s.setArrivals as).ackSeen = s.ackSeen := rfl
@[simp] theorem State.setArrivals_rspValid (s : State) (as : List Arrival) : (s.setArrivals as).rspValid = s.rspValid := rfl
@[simp] theorem State.setArrivals_pend (s : State) (as : List Arrival) : (s.setArrivals as).pend = s.pend := rfl
@[simp] theorem State.setArrivals_dlAckValid (s : State) (as : List Arrival) : (s.setArrivals as).dlAckValid = s.dlAckValid := rfl
@[simp] theorem State.setArrivals_variant (s : State) (as : List Arrival) : (s.setArrivals as).variant = s.variant := rfl
@[simp] theorem State.setArrivals_cfgAddr (s : State) (as : List Arrival) : (s.setArrivals as).cfgAddr = s.cfgAddr := rfl
@[simp] theorem State.setArrivals_watch (s : State) (as : List Arrival) : (s.setArrivals as).watch = s.watch := rfl
@[simp] theorem State.setArrivals_isOpen (s : State) (as : List Arrival) : (s.setArrivals as).isOpen = s.isOpen := rfl
@[simp] theorem State.setArrivals_trace (s : State) (as : List Arrival) : (s.setArrivals as).trace = s.trace := rfl
@[simp] theorem State.setArrivals_dlMode (s : State) (as : List Arrival) : (s.setArrivals as).dlMode = s.dlMode := rfl
@[simp] theorem State.setArrivals_rspBuf (s : State) (as : List Arrival) : (s.setArrivals as).rspBuf = s.rspBuf := rfl
@[simp] theorem State.setArrivals_dlAck (s : State) (as : List Arrival) : (s.setArrivals as).dlAck = s.dlAck := rfl
@[simp] theorem State.setArrivals_tx (s : State) (as : List Arrival) : (s.setArrivals as).tx = s.tx := rfl
@[simp] theorem State.setArrivals_ev (s : State) (as : List Arrival) : (s.setArrivals as).ev = s.ev := rfl
@[simp] theorem State.setArrivals_params (s : State) (as : List Arrival) : (s.setArrivals as).params = s.params := rfl
@[simp] theorem State.setArrivals_label (s : State) (as : List Arrival) : (s.setArrivals as).label = s.label := rfl
@[simp] theorem State.setArrivals_result (s : State) (as : List Arrival) : (s.setArrivals as).result = s.result := rfl
@[simp] theorem State.setArrivals_arrivals (s : State) (as : List Arrival) : (s.setArrivals as).arrivals = as := rfl
@[simp] theorem State.setArrivals_draws (s : State) (as : List Arrival) : (s.setArrivals as).draws = s.draws := rfl

/-! #### `State.report` -/

@[simp] theorem State.report_ls (s : State) (l : StepLabel) (r : Result) : (s.report l r).ls = s.ls := rfl
@[simp] theorem State.report_body (s : State) (l : StepLabel) (r : Result) : (s.report l r).body = s.body := rfl
@[simp] theorem State.report_csum (s : State) (l : StepLabel) (r : Result) : (s.report l r).csum = s.csum := rfl
@[simp] theorem State.report_ackSeen (s : State) (l : StepLabel) (r : Result) : (s.report l r).ackSeen = s.ackSeen := rfl
@[simp] theorem State.report_rspValid (s : State) (l : StepLabel) (r : Result) : (s.report l r).rspValid = s.rspValid := rfl
@[simp] theorem State.report_pend (s : State) (l : StepLabel) (r : Result) : (s.report l r).pend = s.pend := rfl
@[simp] theorem State.report_dlAckValid (s : State) (l : StepLabel) (r : Result) : (s.report l r).dlAckValid = s.dlAckValid := rfl
@[simp] theorem State.report_variant (s : State) (l : StepLabel) (r : Result) : (s.report l r).variant = s.variant := rfl
@[simp] theorem State.report_cfgAddr (s : State) (l : StepLabel) (r : Result) : (s.report l r).cfgAddr = s.cfgAddr := rfl
@[simp] theorem State.report_watch (s : State) (l : StepLabel) (r : Result) : (s.report l r).watch = s.watch := rfl
@[simp] theorem State.report_isOpen (s : State) (l : StepLabel) (r : Result) : (s.report l r).isOpen = s.isOpen := rfl
@[simp] theorem State.report_trace (s : State) (l : StepLabel) (r : Result) : (s.report l r).trace = s.trace := rfl
@[simp] theorem State.report_dlMode (s : State) (l : StepLabel) (r : Result) : (s.report l r).dlMode = s.dlMode := rfl
@[simp] theorem State.report_rspBuf (s : State) (l : StepLabel) (r : Result) : (s.report l r).rspBuf = s.rspBuf := rfl
@[simp] theorem State.report_dlAck (s : State) (l : StepLabel) (r : Result) : (s.report l r).dlAck = s.dlAck := rfl
@[simp] theorem State.report_tx (s : State) (l : StepLabel) (r : Result) : (s.report l r).tx = s.tx := rfl
@[simp] theorem State.report_ev (s : State) (l : StepLabel) (r : Result) : (s.report l r).ev = s.ev := rfl
@[simp] theorem State.report_params (s : State) (l : StepLabel) (r : Result) : (s.report l r).params = s.params := rfl
@[simp] theorem State.report_label (s : State) (l : StepLabel) (r : Result) : (s.report l r).label = l := rfl
@[simp] theorem State.report_result (s : State) (l : StepLabel) (r : Result) : (s.report l r).result = r := rfl
@[simp] theorem State.report_arrivals (s : State) (l : StepLabel) (r : Result) : (s.report l r).arrivals = s.arrivals := rfl
@[simp] theorem State.report_draws (s : State) (l : StepLabel) (r : Result) : (s.report l r).draws = s.draws := rfl

/-! #### The derived registers -/

theorem State.blen_def (s : State) : s.blen = s.body.length := rfl
theorem State.rspLen_def (s : State) : s.rspLen = s.rspBuf.length := rfl

end Sys2Proof.Machine
end

