-- ==== Sys2Proof/Laws/Ops.lean ====
section
/-! SUPPORT. What each shared operation can do, said once: the provers cite these and need not unfold the operation. -/

namespace Sys2Proof.Machine

open Host.Outcome

/-! ### How an operation ends -/

theorem finish_eq (s : State) : finish s = next (s.report .done .unit) := rfl

theorem finishWith_eq (r : Result) (s : State) : finishWith r s = next (s.report .done r) := rfl

theorem finishDrop_eq (r : DropReason) (s : State) : finishDrop r s = next (s.report (.drop r) .unit) := rfl

/-! ### Views and operands -/

theorem addrByte_toNat (s : State) : s.addrByte.toNat = s.cfgAddr.toNat := by
  have := s.cfgAddr.isLt
  simp only [State.addrByte, BitVec.toNat_setWidth]
  omega

theorem addrByte_le (s : State) : s.addrByte.toNat ≤ 31 := by
  have := s.cfgAddr.isLt
  rw [addrByte_toNat]
  omega

theorem variantOfCode_code (v : Variant) : variantOfCode v.code = some v := by cases v <;> rfl

theorem variantOfCode_none (c : BitVec 2) : variantOfCode c = none ↔ c = 3 := by
  revert c; decide

@[simp] theorem serial?_toVariant (v : Serial) : v.toVariant.serial? = some v := by cases v <;> rfl

theorem serial?_eq_some (x : Variant) (v : Serial) : x.serial? = some v ↔ x = v.toVariant := by
  cases x <;> cases v <;> simp [Variant.serial?, Serial.toVariant]

/-- The Watch List register holds exactly the bytes of the set (R211). -/
theorem watchOf_getLsbD (w : List Byte) (c : Byte) : (watchOf w).getLsbD c.toNat = true ↔ c ∈ w := by
  induction w with
  | nil => simp [watchOf]
  | cons x xs ih =>
    have hc := c.isLt
    have hx := x.isLt
    simp only [watchOf, BitVec.getLsbD_or, Bool.or_eq_true, ih, List.mem_cons]
    refine or_congr_left ?_
    rw [BitVec.getLsbD_shiftLeft, BitVec.getLsbD_one]
    simp only [Bool.and_eq_true, decide_eq_true_eq, Bool.not_eq_true', decide_eq_false_iff_not]
    rw [BitVec.toNat_inj.symm]
    omega

theorem watched_cons (s : State) (f : Frame) (c : Byte) (rest : List Byte) (h : f.payload = c :: rest) :
    watched s f = s.watch.getLsbD c.toNat := by
  simp [watched, h]

theorem watched_nil (s : State) (f : Frame) (h : f.payload = []) : watched s f = false := by
  simp [watched, h]

/-! ### The dispatcher -/

/-- `DELIVER` does one of two things. -/
theorem deliver_eq (f : Frame) (s : State) :
    deliver f s =
      if watched s f then next ((s.emitEv (.unsol f.payload)).report .done .unit)
      else next ((s.storeResponse f.payload).report .done .unit) := rfl

/-- Everything `DISPATCH(f)` in a serial variant can do: drop, an ACK seen, or an acknowledgment and a delivery. -/
theorem dispatchSerial_cases (v : Serial) (f : Frame) (s : State) :
    (passesFilter s f = false ∧ dispatchSerial v f s = next (s.report (.drop .addr) .unit)) ∨
    (passesFilter s f = true ∧ isAck s v f = true ∧
      dispatchSerial v f s = next ((s.setAckSeen true).report .done .unit)) ∨
    (passesFilter s f = true ∧ isAck s v f = false ∧
      dispatchSerial v f s = deliver f (s.emitTx (autoAckBytes s.params v f))) := by
  unfold dispatchSerial
  rcases passesFilter s f <;> rcases isAck s v f <;> simp [finishDrop, finish, acknowledgeAndDeliver]

/-- `DISPATCH` never refuses, and touches nothing but `ack_seen`, the response, the streams and the report. -/
theorem dispatchSerial_next (v : Serial) (f : Frame) (s : State) :
    ∃ t, dispatchSerial v f s = next t ∧
      t = { s with ackSeen := t.ackSeen, rspBuf := t.rspBuf, rspValid := t.rspValid, tx := t.tx, ev := t.ev,
                   label := t.label, result := t.result } := by
  rcases dispatchSerial_cases v f s with ⟨-, h⟩ | ⟨-, -, h⟩ | ⟨-, -, h⟩
  · exact ⟨_, h, rfl⟩
  · exact ⟨_, h, rfl⟩
  · rw [h, deliver_eq]
    split
    · exact ⟨_, rfl, rfl⟩
    · exact ⟨_, rfl, rfl⟩

/-! ### The assembler -/

/-- `ACCUM` overflows or stores. -/
theorem accumulate_eq (v : Serial) (x : Byte) (l : LinkState) (s : State) :
    accumulate v x l s =
      if s.blen = bodyMax v then next ((s.setLs .idle).report (.drop .overflow) .unit)
      else next (((s.pushByte x).setLs l).report .done .unit) := rfl

/-- Everything the end delimiter can do. -/
theorem endFrame_cases (v : Serial) (s : State) :
    (∃ e, parseBody s.params v s.body = .err e ∧
      endFrame v s = next ((s.setLs .idle).report (.drop (dropReason e)) .unit)) ∨
    (∃ f, parseBody s.params v s.body = .ok f ∧ endFrame v s = dispatchSerial v f (s.setLs .idle)) := by
  unfold endFrame
  cases h : parseBody s.params v s.body with
  | ok f => exact .inr ⟨f, rfl, rfl⟩
  | err e => exact .inl ⟨e, rfl, rfl⟩

theorem assembling_iff (s : State) (v : Serial) (l : LinkState) :
    s.assembling v l = true ↔ s.variant = v.toVariant ∧ s.isOpen = true ∧ s.dlMode = false ∧ s.ls = l := by
  simp [State.assembling, and_assoc]

/-- A byte of an open session outside download mode makes its transition (R162). -/
theorem execRxb_transition (b : Byte) (s : State) (v : Serial) (hv : s.variant = v.toVariant)
    (ho : s.isOpen = true) (hd : s.dlMode = false) : execRxb b s = transition v b s := by
  simp [execRxb, hv, ho, hd]

/-! ### The send side -/

/-- `SEND` without a frame on the channel: nothing changes. -/
theorem sendFrame_refused (ft : Byte) (data : List Byte) (ok : Bool) (s : State)
    (h : s.isOpen = false ∨ s.dlMode = true ∨ encodeFor s.params s.variant ft s.addrByte data = none) :
    sendFrame ft data ok s = (false, s) := by
  unfold sendFrame
  split
  · rfl
  · split
    · rfl
    · next ho hd =>
      rcases h with h | h | h
      · simp [h] at ho
      · exact absurd h hd
      · simp [h]

/-- `SEND` with a frame: written whole, or some first part of it and the session closed. -/
theorem sendFrame_written (ft : Byte) (data w : List Byte) (ok : Bool) (s : State) (ho : s.isOpen = true)
    (hd : s.dlMode = false) (hw : encodeFor s.params s.variant ft s.addrByte data = some w) :
    sendFrame ft data ok s =
      if ok then (true, (s.setAckSeen false).emitTx w)
      else
        (false, (((s.setAckSeen false).emitTx (w.take (Config.cutLength s.draws))).setOpen false).countDraw) := by
  simp [sendFrame, ho, hd, hw]

/-! ### A step -/

/-- A step runs the operation decoded from the next arrival, refuses it, or waits. -/
theorem step_cases (s : State) :
    (s.arrivals = [] ∧ step s = next s) ∨
    (∃ a rest i, s.arrivals = a :: rest ∧ decode s.context a = some i ∧ step s = exec i (s.setArrivals rest)) ∨
    (∃ a rest, s.arrivals = a :: rest ∧ decode s.context a = none ∧ step s = refused .notIssued) := by
  unfold step State.fetch
  cases ha : s.arrivals with
  | nil => exact .inl ⟨rfl, rfl⟩
  | cons a rest =>
    simp only
    cases hd : decode s.context a with
    | none => exact .inr (.inr ⟨a, rest, rfl, hd, rfl⟩)
    | some i => exact .inr (.inl ⟨a, rest, i, rfl, hd, rfl⟩)

/-- The host's run of this machine is `runSteps`. -/
theorem run_core (k : Nat) (s : State) : Host.Core.run Sys2Proof.core k s = runSteps k s := by
  induction k generalizing s with
  | zero => rfl
  | succ k ih =>
    have hs : Sys2Proof.core.step s = step s := rfl
    cases h : step s with
    | next t => simp only [Host.Core.run, runSteps, hs.trans h, h, ih]; rfl
    | fault r => simp only [Host.Core.run, runSteps, hs.trans h, h]; rfl
    | refused r => simp only [Host.Core.run, runSteps, hs.trans h, h]; rfl

theorem runSteps_zero (s : State) : runSteps 0 s = next s := rfl

/-- One step of a run that goes on. -/
theorem runSteps_succ {s t : State} (k : Nat) (h : step s = next t) : runSteps (k + 1) s = runSteps k t := by
  simp [runSteps, h]

/-- The step that runs the next arrival. -/
theorem step_arrival {s : State} {a : Arrival} {rest : List Arrival} {i : Instr} (ha : s.arrivals = a :: rest)
    (hi : decode s.context a = some i) : step s = exec i { s with arrivals := rest } := by
  simp [step, State.fetch, ha, hi, State.setArrivals]

/-- The operation a byte is decoded to does what RXB does (R162). -/
theorem exec_decodeByte (s t : State) (b : Byte) (hc : t.context = s.context) :
    exec (decodeByte s.context b) t = exec (.rxb b) t := by
  rw [← hc]
  have hctx : t.context = ⟨t.params, t.variant, t.isOpen, t.dlMode, t.ls⟩ := rfl
  rw [hctx]
  simp only [decodeByte]
  rcases hv : t.variant with _ | _ | _
  · rfl
  · rcases ho : t.isOpen with _ | _
    · rfl
    · rcases hd : t.dlMode with _ | _
      · have ha (l : LinkState) (hl : t.ls = l) : t.assembling .s450 l = true := by
          rw [assembling_iff]; exact ⟨hv, ho, hd, hl⟩
        have hr := execRxb_transition b t .s450 hv ho hd
        simp only [Bool.not_false, Bool.and_self, if_true]
        change _ = execRxb b t
        rw [hr]
        unfold transition
        rcases hl : t.ls with _ | _ | _ <;> rcases hk : classOf t.params .s450 b with _ | _ | _ | _ <;>
          simp [transitionRow, exec, execRxbIdleStartS450, execRxbIdleOtherS450, execRxbReceivingStartS450,
            execRxbReceivingStuffS450, execRxbReceivingEndS450, execRxbReceivingOrdS450, execRxbEscapeSeenAnyS450,
            ha _ hl, hk]
      · rfl
  · rcases ho : t.isOpen with _ | _
    · rfl
    · rcases hd : t.dlMode with _ | _
      · have ha (l : LinkState) (hl : t.ls = l) : t.assembling .opos l = true := by
          rw [assembling_iff]; exact ⟨hv, ho, hd, hl⟩
        have hr := execRxb_transition b t .opos hv ho hd
        simp only [Bool.not_true, Bool.false_eq_true, if_false]
        change _ = execRxb b t
        rw [hr]
        unfold transition
        rcases hl : t.ls with _ | _ | _ <;> rcases hk : classOf t.params .opos b with _ | _ | _ | _ <;>
          simp [transitionRow, exec, execRxbIdleStartOpos, execRxbIdleOtherOpos, execRxbReceivingStartOpos,
            execRxbReceivingStuffOpos, execRxbReceivingEndOpos, execRxbReceivingOrdOpos, execRxbEscapeSeenAnyOpos,
            ha _ hl, hk]
      · simp [exec, execRxb, execRxbDl, State.capturing, hv, ho, hd, Variant.serial?]

/-- The step that takes a received byte does what RXB does. -/
theorem step_byte {s : State} {b : Byte} {rest : List Arrival} (ha : s.arrivals = .byte b :: rest) :
    step s = exec (.rxb b) { s with arrivals := rest } := by
  rw [step_arrival ha rfl]
  exact exec_decodeByte s { s with arrivals := rest } b rfl

end Sys2Proof.Machine
end

