-- ==== Sys2Proof/Laws/Outcomes.lean ====
section
/-! SUPPORT. What every operation can do, said once: the inversions of `exec` that the whole-machine rules follow from,
and the laws of runs. -/

namespace Sys2Proof.Machine

open Host.Outcome

/-! ### What an operation can do -/

/-- `t` is `s` but for the assembler registers and the report of the last operation. -/
abbrev SameButLine (s t : State) : Prop :=
  t = { s with ls := t.ls, body := t.body, csum := t.csum, label := t.label, result := t.result }

/-- Everything a row that the line selects, a dispatch row or a layout row can do, beside closing the session: nothing, a
raw capture, an ACK seen, or an acknowledgment (perhaps empty) with a stored response or an event; the assembler
registers and the report apart. -/
def LineEffect (s t : State) : Prop :=
  ∃ u : State, SameButLine u t ∧
   (u = s ∨ (∃ b, u = s.captureRaw b) ∨ u = s.setAckSeen true ∨
    (∃ x p, u = (s.emitTx x).storeResponse p) ∨ (∃ x e, u = (s.emitTx x).emitEv e) )

/-- `DELIVER` after an acknowledgment. -/
theorem emit_deliver_lineEffect {f s x o} (h : deliver f (s.emitTx x) = o) : ∃ t, o = next t ∧ t.ls = s.ls ∧ LineEffect s t := by
  subst h
  rw [deliver_eq]; split
  · exact ⟨_, rfl, rfl, _, rfl, .inr (.inr (.inr (.inr ⟨_, _, rfl⟩)))⟩
  · exact ⟨_, rfl, rfl, _, rfl, .inr (.inr (.inr (.inl ⟨_, _, rfl⟩)))⟩

/-- `DELIVER` alone. -/
theorem deliver_lineEffect (f s) : ∃ t, deliver f s = next t ∧ LineEffect s t := by
  obtain ⟨t, h, -, h2⟩ := emit_deliver_lineEffect (f := f) (s := s) (x := []) rfl
  simp [State.emitTx] at h
  exact ⟨t, h, h2⟩

/-- Leaving a link state is part of the line's effect. -/
theorem lineEffect_of_setLs {s t l} (h : LineEffect (s.setLs l) t) : LineEffect s t := by
  obtain ⟨u, h1, h2⟩ := h
  rcases h2 with rfl | ⟨b, rfl⟩ | rfl | ⟨x, p, rfl⟩ | ⟨x, p, rfl⟩
  · exact ⟨s, h1, .inl rfl⟩
  · exact ⟨s.captureRaw b, h1, by simp⟩
  · exact ⟨s.setAckSeen true, h1, by simp⟩
  · exact ⟨(s.emitTx x).storeResponse p, h1, .inr (.inr (.inr (.inl ⟨x, p, rfl⟩)))⟩
  · exact ⟨(s.emitTx x).emitEv p, h1, .inr (.inr (.inr (.inr ⟨x, p, rfl⟩)))⟩

/-- `DISPATCH(f)`. -/
theorem dispatchSerial_lineEffect (v f s) : ∃ t, dispatchSerial v f s = next t ∧ LineEffect s t := by
  rcases dispatchSerial_cases v f s with ⟨-, h⟩ | ⟨-, -, h⟩ | ⟨-, -, h⟩
  · exact ⟨_, h, s, rfl, .inl rfl⟩
  · exact ⟨_, h, s.setAckSeen true, rfl, by simp⟩
  · obtain ⟨t, h1, -, h2⟩ := emit_deliver_lineEffect h.symm
    exact ⟨t, by rw [h, ← h1, h], h2⟩

/-- `ACCUM`. -/
theorem accumulate_lineEffect (v x l s) : ∃ t, accumulate v x l s = next t ∧ LineEffect s t := by
  rw [accumulate_eq]; split
  · exact ⟨_, rfl, s, rfl, .inl rfl⟩
  · exact ⟨_, rfl, s, rfl, .inl rfl⟩

/-- Every transition. -/
theorem transition_lineEffect (v b s) : ∃ t, transition v b s = next t ∧ LineEffect s t := by
  unfold transition
  split <;> first | exact ⟨_, rfl, s, rfl, .inl rfl⟩ | exact accumulate_lineEffect _ _ _ _ | skip
  · unfold restartFrame; split <;> exact ⟨_, rfl, s, rfl, .inl rfl⟩
  · rcases endFrame_cases v s with ⟨e, -, h⟩ | ⟨f, -, h⟩ <;> rw [h]
    · exact ⟨_, rfl, s, rfl, .inl rfl⟩
    · obtain ⟨t, h1, h2⟩ := dispatchSerial_lineEffect v f (s.setLs .idle)
      exact ⟨t, h1, lineEffect_of_setLs h2⟩

/-- The end delimiter. -/
theorem endFrame_lineEffect (v s) : ∃ t, endFrame v s = next t ∧ LineEffect s t := by
  rcases endFrame_cases v s with ⟨e, -, h⟩ | ⟨f, -, h⟩ <;> rw [h]
  · exact ⟨_, rfl, s, rfl, .inl rfl⟩
  · obtain ⟨t, h1, h2⟩ := dispatchSerial_lineEffect v f (s.setLs .idle)
    exact ⟨t, h1, lineEffect_of_setLs h2⟩

/-- Inversion of `exec` for the rows that are not issued by name. -/
theorem exec_line_cases (i : Instr) (s t : State) (hn : i.isByName = false) (h : exec i s = next t) :
    LineEffect s t ∨ (t = ((s.setOpen false).report .done .unit) ∧ (i = .cherr ∨ i = .rxt [])) := by
  have fin {g : Host.Outcome State Fault Refusal} (hg : ∃ u, g = next u ∧ LineEffect s u) (hh : g = next t) : LineEffect s t := by
    obtain ⟨u, h1, h2⟩ := hg; rw [h1] at hh; cases hh; exact h2
  have self (l r) (hh : next (s.report l r) = (next t : Host.Outcome State Fault Refusal)) : LineEffect s t := fin ⟨_, rfl, s, rfl, .inl rfl⟩ hh
  cases i <;> simp [Instr.isByName] at hn <;> simp only [exec] at h
  case rxt xs =>
    simp only [execRxt] at h
    split at h
    · cases h
    · split at h
      · exact .inl (self _ _ h)
      · split at h
        · cases h; exact .inr ⟨rfl, by simp_all⟩
        · split at h
          · exact .inl (self _ _ h)
          · exact .inl (fin (deliver_lineEffect _ _) h)
  case cherr =>
    simp only [execCherr] at h
    split at h
    · cases h; exact .inr ⟨rfl, by simp⟩
    · exact .inl (self _ _ h)
  all_goals left
  case rxb b =>
    simp only [execRxb] at h
    split at h
    · cases h
    · split at h
      · exact self _ _ h
      · split at h
        · exact fin ⟨_, rfl, s.captureRaw b, rfl, by simp⟩ h
        · exact fin (transition_lineEffect _ _ _) h
  case rxbDl b => 
    simp only [execRxbDl] at h
    split at h
    · exact fin ⟨_, rfl, s.captureRaw b, rfl, by simp⟩ h
    · cases h
  case accum x =>
    simp only [execAccum] at h
    split at h
    · exact fin (accumulate_lineEffect _ _ _ _) h
    · cases h
  case dispatchAutoack f =>
    simp only [execDispatchAutoack] at h
    split at h
    · split at h
      · obtain ⟨u, h1, -, h2⟩ := emit_deliver_lineEffect (f := f) (s := s) rfl
        exact fin ⟨u, h1, h2⟩ h
      · cases h
    · cases h
  all_goals
    simp only [execRxbIdleStartS450, execRxbIdleStartOpos, execRxbIdleOtherS450, execRxbIdleOtherOpos, execRxbReceivingStartS450, execRxbReceivingStartOpos,
      execRxbReceivingStuffS450, execRxbReceivingStuffOpos, execRxbReceivingEndS450, execRxbReceivingEndOpos, execRxbReceivingOrdS450, execRxbReceivingOrdOpos,
      execRxbEscapeSeenAnyS450, execRxbEscapeSeenAnyOpos, execDispatchAddr, execDispatchAckS450, execDispatchAckOpos, execDeliverUnsol, execDeliverRsp,
      execDispatchUsb, execFrameUsb, execFrameS450, execFrameOpos, execAckS450, execAckOpos] at h
  all_goals
    first
    | exact self _ _ h
    | (split at h <;> [skip; cases h])
  all_goals
    first
    | exact self _ _ h
    | exact fin (accumulate_lineEffect _ _ _ _) h
    | exact fin (endFrame_lineEffect _ _) h
    | exact fin (deliver_lineEffect _ _) h
    | exact fin ⟨_, rfl, s, rfl, .inl rfl⟩ h
    | exact fin ⟨_, rfl, s.setAckSeen true, rfl, by simp⟩ h
    | exact fin ⟨_, rfl, s.emitEv _, rfl, .inr (.inr (.inr (.inr ⟨[], _, by simp [State.emitTx, State.emitEv]; rfl⟩)))⟩ h
    | exact fin ⟨_, rfl, s.storeResponse _, rfl, .inr (.inr (.inr (.inl ⟨[], _, by simp [State.emitTx, State.storeResponse]; rfl⟩)))⟩ h
    | skip
  · exact fin (by unfold restartFrame; split <;> exact ⟨_, rfl, s, rfl, .inl rfl⟩) h
  · exact fin (by unfold restartFrame; split <;> exact ⟨_, rfl, s, rfl, .inl rfl⟩) h
  · split at h <;> exact self _ _ h

/-- `SEND` writes, answers false with nothing changed, or fails part way. -/
theorem sendFrame_cases (ft data ok s) : (∃ w, sendFrame ft data ok s = (true, (s.setAckSeen false).emitTx w) ∧ s.isOpen = true) ∨ sendFrame ft data ok s = (false, s) ∨
    (ok = false ∧ ∃ w, sendFrame ft data ok s = (false, (((s.setAckSeen false).emitTx w).setOpen false).countDraw)) := by
  unfold sendFrame
  split
  · simp
  · split
    · simp
    · split
      · simp
      · rename_i ho _ _ w _
        split
        · exact .inl ⟨w, rfl, by simpa using ho⟩
        · exact .inr (.inr ⟨by simpa using ‹¬ ok = true›, _, rfl⟩)

/-- Inversion of `exec` for the operations issued by name. -/
theorem exec_named_cases (i : Instr) (s t : State) (hn : i.isByName = true) (h : exec i s = next t) :
    (i = .reset ∧ t = s.resetRegisters.report .done .unit) ∨
    (s.isOpen = false ∧ ∃ c a w v a' w', i = .cfg c a w ∧ t = (s.setConfig v a' w').report .done .unit) ∨
    (i = .connect true ∧ s.isOpen = false ∧ t = s.openSession.report .done (.bool true)) ∨
    (i = .disconnect ∧ t = (s.setOpen false).report .done .unit) ∨
    (∃ e, i = .settrace e ∧ t = (s.setTrace e).report .done .unit) ∨
    (∃ e, i = .dlmode e ∧ s.variant = .opos ∧ s.isOpen = true ∧ t = ((s.setDlMode e).setDlAckValid false).report .done .unit) ∨
    (∃ w r, t = ((s.setAckSeen false).emitTx w).report .done r ∧ s.isOpen = true) ∨
    (∃ w r, (∃ ft data, i = .send ft data false ∨ i = .sendw ft data false) ∧ t = ((((s.setAckSeen false).emitTx w).setOpen false).countDraw).report .done r) ∨
    (∃ w, (∃ ft data ok, i = .sendw ft data ok) ∧ s.pend = false ∧ t = ((((s.setAckSeen false).emitTx w).setPend true).setRspValid false).report .done (.bool true)) ∨
    (i = .take ∧ s.rspValid = true ∧ ∃ r, t = ((s.setRspValid false).setPend false).report .done r) ∨
    (∃ r, t = (s.setDlAckValid false).report .done r) ∨
    (i = .expire ∧ t = (s.setPend false).report .done .unit) ∨
    (∃ r, t = s.report .done r) := by
  have self (r) (hh : next (s.report .done r) = (next t : Host.Outcome State Fault Refusal)) : ∃ r, t = s.report .done r := by cases hh; exact ⟨_, rfl⟩
  cases i <;> simp [Instr.isByName] at hn <;> simp only [exec] at h
  case reset => cases h; simp
  case cfg c a w =>
    simp only [execCfg] at h
    split at h
    · cases h
    · split at h
      · cases h
      · split at h
        · cases h
        · cases h; right; left; exact ⟨by simpa using ‹¬ s.isOpen = true›, _, _, _, _, _, _, rfl, rfl⟩
  case connect ok =>
    simp only [execConnect] at h
    split at h
    · have := self _ h; simp_all
    · split at h
      · have := self _ h; simp_all
      · cases h; simp_all
  case disconnect => cases h; simp
  case settrace e => cases h; simp
  case dlmode e =>
    simp only [execDlmode] at h
    split at h
    · cases h
    · split at h
      · cases h
      · cases h; simp_all
  case send ft data ok =>
    simp only [execSend] at h
    rcases sendFrame_cases ft data ok s with ⟨w, h1, h2⟩ | h1 | ⟨h2, w, h1⟩ <;> rw [h1] at h <;> cases h
    · right; right; right; right; right; right; left; exact ⟨_, _, rfl, h2⟩
    · right; right; right; right; right; right; right; right; right; right; right; right; exact ⟨_, rfl⟩
    · right; right; right; right; right; right; right; left; exact ⟨_, _, ⟨_, _, .inl (by rw [h2])⟩, rfl⟩
  case sendw ft data ok =>
    simp only [execSendw] at h
    split at h
    · cases h
    rcases sendFrame_cases ft data ok s with ⟨w, h1, h2⟩ | h1 | ⟨h2, w, h1⟩ <;> rw [h1] at h <;> cases h
    · right; right; right; right; right; right; right; right; left; exact ⟨_, ⟨_, _, _, rfl⟩, by simpa using ‹¬ s.pend = true›, rfl⟩
    · right; right; right; right; right; right; right; right; right; right; right; right; exact ⟨_, rfl⟩
    · right; right; right; right; right; right; right; left; exact ⟨_, _, ⟨_, _, .inr (by rw [h2])⟩, rfl⟩
  case take =>
    simp only [execTake] at h
    split at h
    · cases h; right; right; right; right; right; right; right; right; right; left; exact ⟨rfl, by assumption, _, rfl⟩
    · cases h; right; right; right; right; right; right; right; right; right; right; right; right; exact ⟨_, rfl⟩
  case dltake =>
    simp only [execDltake] at h
    split at h
    · cases h; right; right; right; right; right; right; right; right; right; right; left; exact ⟨_, rfl⟩
    · cases h; right; right; right; right; right; right; right; right; right; right; right; right; exact ⟨_, rfl⟩
  case expire => cases h; simp
  all_goals
    (cases h; right; right; right; right; right; right; right; right; right; right; right; right; exact ⟨_, rfl⟩)

/-! ### Runs -/

theorem sameButAssembler_trans {s t u : State} (h1 : SameButAssembler s t) (h2 : SameButAssembler t u) :
    SameButAssembler s u := by
  unfold SameButAssembler at *
  rw [h2, h1]

/-- The step that takes a byte of an open serial session outside download mode. -/
theorem step_serial {t : State} {v : Serial} {b : Byte} {r : List Arrival} (ha : t.arrivals = .byte b :: r)
    (hv : t.variant = v.toVariant) (ho : t.isOpen = true) (hd : t.dlMode = false) :
    step t = transition v b (t.setArrivals r) := by
  rw [step_byte ha]
  exact execRxb_transition b (t.setArrivals r) v hv ho hd

/-- A run is the run of its first part, then of the rest. -/
theorem runSteps_add (m n : Nat) :
    ∀ {s t : State}, runSteps m s = next t → runSteps (m + n) s = runSteps n t := by
  induction m with
  | zero => intro s t h; cases h; simp
  | succ m ih =>
    intro s t h
    rw [Nat.succ_add]
    simp only [runSteps] at h ⊢
    cases hs : step s <;> rw [hs] at h <;> simp at h ⊢
    exact ih h

end Sys2Proof.Machine
end

