-- ==== Sys2Proof/Laws/PerInstr.lean ====
section
/-! SUPPORT. The family `ArrivalOf`, one lemma per operation: the arrival that an operation was decoded from is the one
the encoder gives it, so that no two arrivals are decoded to one operation in one context. It is the converse of the
round trip from operations. -/

namespace Sys2Proof.Laws.ArrivalOf

/-- Whatever arrival is decoded to `i`, in whatever context, is the arrival that `encode` presents `i` by. -/
def Statement (i : Instr) : Prop :=
  ∀ (c : Context) (a : Arrival), decode c a = some i → encode c.params i = some a

/-- The byte that selects a transition is the one `encode` gives that transition's row. -/
theorem encode_transitionRow (p : Params) (v : Serial) (l : LinkState) (b : Byte) :
    encode p (transitionRow v l (classOf p v b) b) = some (.byte b) := by
  have hstart := (classOf_eq_start p v b).1
  have hstop := (classOf_eq_stop p v b).1
  have hstuff := (classOf_eq_stuff p v b).1
  rcases hk : classOf p v b with _ | _ | _ | _ <;> cases v <;> cases l <;> simp_all [transitionRow, encode] <;> simp [startOf, stopOf, stuffOf]

/-- The byte that selects a row is the one `encode` gives that row. -/
theorem encode_decodeByte (c : Context) (b : Byte) : encode c.params (decodeByte c b) = some (.byte b) := by
  unfold decodeByte
  split
  · rfl
  · split
    · exact encode_transitionRow _ _ _ _
    · rfl
  · split
    · rfl
    · split
      · rfl
      · exact encode_transitionRow _ _ _ _

/-- An operation issued by name is presented by its name. -/
theorem encode_byName (p : Params) (i : Instr) (h : i.isByName = true) : encode p i = some (.named i) := by
  cases i <;> first | rfl | cases h

/-- The statement, for every operation. -/
theorem all (i : Instr) : Statement i := by
  intro c a h
  rcases a with b | xfer | _ | j
  · cases h
    exact encode_decodeByte c b
  · cases h
    rfl
  · cases h
    rfl
  · simp only [decode] at h
    split at h
    · cases h
      exact encode_byName _ _ ‹_›
    · cases h

theorem reset : Statement (.reset) := all _

theorem cfg (variant : BitVec 2) (addr : Nat) (watchSet : List Byte) : Statement (.cfg variant addr watchSet) := all _

theorem connect (chanOk : Bool) : Statement (.connect chanOk) := all _

theorem disconnect : Statement (.disconnect) := all _

theorem settrace (e : Bool) : Statement (.settrace e) := all _

theorem isserial : Statement (.isserial) := all _

theorem dlmode (on : Bool) : Statement (.dlmode on) := all _

theorem send (ftype : Byte) (data : List Byte) (wrOk : Bool) : Statement (.send ftype data wrOk) := all _

theorem sendw (ftype : Byte) (data : List Byte) (wrOk : Bool) : Statement (.sendw ftype data wrOk) := all _

theorem take : Statement (.take) := all _

theorem rdstat : Statement (.rdstat) := all _

theorem dltake : Statement (.dltake) := all _

theorem expire : Statement (.expire) := all _

theorem rxb (b : Byte) : Statement (.rxb b) := all _

theorem rxbDl (b : Byte) : Statement (.rxbDl b) := all _

theorem rxbIdleStartS450 : Statement (.rxbIdleStartS450) := all _

theorem rxbIdleStartOpos : Statement (.rxbIdleStartOpos) := all _

theorem rxbIdleOtherS450 (b : Byte) : Statement (.rxbIdleOtherS450 b) := all _

theorem rxbIdleOtherOpos (b : Byte) : Statement (.rxbIdleOtherOpos b) := all _

theorem rxbReceivingStartS450 : Statement (.rxbReceivingStartS450) := all _

theorem rxbReceivingStartOpos : Statement (.rxbReceivingStartOpos) := all _

theorem rxbReceivingStuffS450 : Statement (.rxbReceivingStuffS450) := all _

theorem rxbReceivingStuffOpos : Statement (.rxbReceivingStuffOpos) := all _

theorem rxbReceivingEndS450 : Statement (.rxbReceivingEndS450) := all _

theorem rxbReceivingEndOpos : Statement (.rxbReceivingEndOpos) := all _

theorem rxbReceivingOrdS450 (b : Byte) : Statement (.rxbReceivingOrdS450 b) := all _

theorem rxbReceivingOrdOpos (b : Byte) : Statement (.rxbReceivingOrdOpos b) := all _

theorem rxbEscapeSeenAnyS450 (b : Byte) : Statement (.rxbEscapeSeenAnyS450 b) := all _

theorem rxbEscapeSeenAnyOpos (b : Byte) : Statement (.rxbEscapeSeenAnyOpos b) := all _

theorem accum (x : Byte) : Statement (.accum x) := all _

theorem rxt (xfer : List Byte) : Statement (.rxt xfer) := all _

theorem cherr : Statement (.cherr) := all _

theorem dispatchAddr (f : Frame) : Statement (.dispatchAddr f) := all _

theorem dispatchAckS450 (f : Frame) : Statement (.dispatchAckS450 f) := all _

theorem dispatchAckOpos (f : Frame) : Statement (.dispatchAckOpos f) := all _

theorem dispatchAutoack (f : Frame) : Statement (.dispatchAutoack f) := all _

theorem deliverUnsol (f : Frame) : Statement (.deliverUnsol f) := all _

theorem deliverRsp (f : Frame) : Statement (.deliverRsp f) := all _

theorem dispatchUsb (f : Frame) : Statement (.dispatchUsb f) := all _

theorem frameUsb (payload : List Byte) : Statement (.frameUsb payload) := all _

theorem frameS450 (ftype dest : Byte) (payload : List Byte) : Statement (.frameS450 ftype dest payload) := all _

theorem frameOpos (dest : Byte) (payload : List Byte) : Statement (.frameOpos dest payload) := all _

theorem ackS450 (dest : Byte) : Statement (.ackS450 dest) := all _

theorem ackOpos (dest : Byte) : Statement (.ackOpos dest) := all _

theorem esc (v : Serial) (b : Byte) : Statement (.esc v b) := all _

theorem unesc (v : Serial) (e : Byte) : Statement (.unesc v e) := all _

theorem chk (v : Serial) (hp : List Byte) : Statement (.chk v hp) := all _

theorem encUsb (ftype dest : Byte) (data : List Byte) : Statement (.encUsb ftype dest data) := all _

theorem encS450 (ftype dest : Byte) (data : List Byte) : Statement (.encS450 ftype dest data) := all _

theorem encOpos (ftype dest : Byte) (data : List Byte) : Statement (.encOpos ftype dest data) := all _

theorem decUsb (raw : List Byte) : Statement (.decUsb raw) := all _

theorem decS450 (raw : List Byte) : Statement (.decS450 raw) := all _

theorem decOpos (raw : List Byte) : Statement (.decOpos raw) := all _

theorem parse (v : Serial) (body : List Byte) : Statement (.parse v body) := all _

end Sys2Proof.Laws.ArrivalOf
end

