-- ==== Sys2Proof/Tests/Slice0.lean ====
section
/-! SUPPORT. The model's own tests. Expected results are the vectors of 95_test_vectors.md (their ids stand in the
comments) or hand computations from the rules; the parameter settings are that file's REFA and REFB. The last part gives,
for each statement with hypotheses, concrete values that meet them. -/

namespace Sys2Proof.Tests

open Sys2Proof.Machine Host.Outcome

/-! ### Helpers -/

/-- REFA of 95_test_vectors.md section 1, with the OPOS defaults. -/
def refA : Params := {}

/-- REFB of 95_test_vectors.md section 1. -/
def refB : Params := { s450 := { start := 0x02, stop := 0x03, stuff := 0x10 } }

/-- REFA with `OPOS_AUTO_ACK = 1`. -/
def refAuto : Params := { opos := { autoAck := true } }

/-- An open session of variant `v` for address 5 (REFA), Watch List 80. -/
def session (v : Variant) : State :=
  { State.reset with params := refA, variant := v, isOpen := true, cfgAddr := 5, watch := watchOf [0x80] }

/-- That session in link state `l` with a body and its running sum. -/
def during (v : Variant) (l : LinkState) (body : List Byte) (csum : Byte) : State :=
  (session v).withAssembler l body csum

/-- A view of the next state, none where there is none. -/
def after {α : Type} (o : Host.Outcome State Fault Refusal) (f : State → α) : Option α :=
  match o with
  | .next t => some (f t)
  | .fault _ => none
  | .refused _ => none

/-- The refusal, if it is one. -/
def refusal (o : Host.Outcome State Fault Refusal) : Option Refusal :=
  match o with
  | .next _ => none
  | .fault _ => none
  | .refused r => some r

/-- The assembler registers. -/
def assembler (s : State) : LinkState × List Byte × Byte := (s.ls, s.body, s.csum)

/-! ### WellFormed: an ill-formed term for each check -/

theorem test_wf_refuses_sessions :
    (Instr.cfg 3 0 []).wellFormed refA = false ∧ (Instr.cfg 0 32 []).wellFormed refA = false ∧
      (Instr.cfg 2 31 []).wellFormed refA = true := by decide

theorem test_wf_refuses_bytes :
    (Instr.rxbIdleOtherS450 0xFE).wellFormed refA = false ∧ (Instr.rxbIdleOtherOpos 0x1F).wellFormed refA = false ∧
      (Instr.rxbReceivingOrdS450 0xFE).wellFormed refA = false ∧
      (Instr.rxbReceivingOrdS450 0xFF).wellFormed refA = false ∧
      (Instr.rxbReceivingOrdS450 0xFD).wellFormed refA = false ∧
      (Instr.rxbReceivingOrdOpos 0x1F).wellFormed refA = false ∧
      (Instr.rxbReceivingOrdOpos 0x04).wellFormed refA = false ∧
      (Instr.rxbReceivingOrdOpos 0xA0).wellFormed refA = false := by decide

theorem test_wf_refuses_frames :
    (Instr.dispatchAddr ⟨none, none, []⟩).wellFormed refA = false ∧
      (Instr.dispatchAckS450 ⟨some 0x43, some 5, []⟩).wellFormed refA = false ∧
      (Instr.dispatchAckS450 ⟨none, some 5, []⟩).wellFormed refA = false ∧
      (Instr.dispatchAckOpos ⟨none, some 5, [1]⟩).wellFormed refA = false ∧
      (Instr.dispatchAutoack ⟨some 0x43, none, []⟩).wellFormed refA = false ∧
      (Instr.deliverUnsol ⟨none, some 5, []⟩).wellFormed refA = false ∧
      (Instr.deliverRsp ⟨some 0x43, none, []⟩).wellFormed refA = false ∧
      (Instr.dispatchUsb ⟨none, some 5, []⟩).wellFormed refA = false := by decide

theorem test_wf_refuses_layouts :
    (Instr.frameS450 0x99 5 []).wellFormed refA = false ∧ (Instr.frameS450 0x43 32 []).wellFormed refA = false ∧
      (Instr.frameOpos 32 []).wellFormed refA = false ∧ (Instr.ackS450 32).wellFormed refA = false ∧
      (Instr.ackOpos 32).wellFormed refA = false ∧ (Instr.ackOpos 31).wellFormed refA = true := by decide

theorem test_wf_refuses_lengths (xs : List Byte) :
    (xs.length = 513 → (Instr.rxt xs).wellFormed refA = false) ∧
      (xs.length = 257 → (Instr.frameUsb xs).wellFormed refA = false) ∧
      (xs.length = 256 → (Instr.frameS450 0x43 5 xs).wellFormed refA = false) ∧
      (xs.length = 256 → (Instr.frameOpos 5 xs).wellFormed refA = false) ∧
      (xs.length = 260 → (Instr.parse .s450 xs).wellFormed refA = false) ∧
      (xs.length = 259 → (Instr.parse .opos xs).wellFormed refA = false) := by
  refine ⟨?_, ?_, ?_, ?_, ?_, ?_⟩ <;> intro h <;> simp [Instr.wellFormed, Config.usbXferMax, bodyLimit, h]

/-- WF1, WF2: equal sentinels, and an image that is a sentinel, are no parameters (R6). -/
theorem test_wf_refuses_parameters :
    sentinelsDistinct 0x02 0x02 0x10 = false ∧ imagesClear 0x21 0x03 0x10 = true ∧
      imagesClear 0x20 0x03 0x1D = false := by decide

/-! ### Decoding: bytes written out from the class table (R90) and the transitions (R162) -/

theorem test_decode_idle :
    decodeByte ⟨refB, .s450, true, false, .idle⟩ 0x02 = .rxbIdleStartS450 ∧
      decodeByte ⟨refB, .s450, true, false, .idle⟩ 0x03 = .rxbIdleOtherS450 0x03 ∧
      decodeByte ⟨refA, .opos, true, false, .idle⟩ 0x1F = .rxbIdleStartOpos ∧
      decodeByte ⟨refA, .opos, true, false, .idle⟩ 0xA0 = .rxbIdleOtherOpos 0xA0 := by decide

theorem test_decode_receiving :
    decodeByte ⟨refB, .s450, true, false, .receiving⟩ 0x10 = .rxbReceivingStuffS450 ∧
      decodeByte ⟨refB, .s450, true, false, .receiving⟩ 0xFD = .rxbReceivingOrdS450 0xFD ∧
      decodeByte ⟨refB, .s450, true, false, .receiving⟩ 0x03 = .rxbReceivingEndS450 ∧
      decodeByte ⟨refA, .opos, true, false, .receiving⟩ 0x1F = .rxbReceivingStartOpos ∧
      decodeByte ⟨refA, .opos, true, false, .receiving⟩ 0xA0 = .rxbReceivingStuffOpos ∧
      decodeByte ⟨refA, .opos, true, false, .receiving⟩ 0x04 = .rxbReceivingEndOpos ∧
      decodeByte ⟨refA, .opos, true, false, .receiving⟩ 0x41 = .rxbReceivingOrdOpos 0x41 := by decide

theorem test_decode_gates :
    decodeByte ⟨refA, .opos, true, false, .escapeSeen⟩ 0x04 = .rxbEscapeSeenAnyOpos 0x04 ∧
      decodeByte ⟨refA, .opos, true, true, .receiving⟩ 0x04 = .rxbDl 0x04 ∧
      decodeByte ⟨refA, .opos, false, true, .receiving⟩ 0x04 = .rxb 0x04 ∧
      decodeByte ⟨refA, .usb, true, false, .idle⟩ 0x10 = .rxb 0x10 := by decide

/-- A name that no agent issues is no operation (R9). -/
theorem test_decode_names :
    decode ⟨refA, .usb, true, false, .idle⟩ (.named (.accum 1)) = none ∧
      decode ⟨refA, .usb, true, false, .idle⟩ (.named (.rxb 1)) = none ∧
      decode ⟨refA, .usb, true, false, .idle⟩ (.named .take) = some .take ∧
      decode ⟨refA, .usb, true, false, .idle⟩ (.transfer [0x10]) = some (.rxt [0x10]) ∧
      decode ⟨refA, .usb, true, false, .idle⟩ .failure = some .cherr := by decide

/-- The table's words run as the first step after reset. -/
theorem test_table_words_step :
    after (step (State.reset.withFetchWord 8 0x1F)) State.ls = some .receiving ∧
      after (step (State.reset.withFetchWord 8 0xA0)) State.ls = some .escapeSeen ∧
      after (step (State.reset.withFetchWord 8 0x04)) State.label = some (.drop .short) ∧
      after (step (State.reset.withFetchWord 8 0x00)) State.body = some [0xA0] := by decide

/-! ### The codec (95_test_vectors.md section 3.1 to 3.3) -/

/-- K1, K2, K3, K4. -/
theorem test_esc_s450 :
    [0xFE, 0xFF, 0xFD].map (escByte refA .s450) = [[0xFD, 0x01], [0xFD, 0x02], [0xFD, 0x00]] ∧
      [0x02, 0x03, 0x10].map (escByte refB .s450) = [[0x10, 0xF2], [0x10, 0xF3], [0x10, 0x00]] := by decide

/-- K5, K6. -/
theorem test_esc_opos :
    after (exec (.esc .opos 0x1F) (session .usb)) State.result = some (.bytes [0xA0, 0x7F]) ∧
      [0x04, 0xA0, 0x7F].map (escByte refA .opos) = [[0xA0, 0x64], [0xA0, 0x00], [0x7F]] := by decide

/-- K7, K8, K9. -/
theorem test_unesc :
    [0x7F, 0x64, 0x00, 0x1F, 0x04, 0xA0, 0x41].map (unescByte refA .opos) =
        [0x1F, 0x04, 0xA0, 0xBF, 0xA4, 0x40, 0xE1] ∧
      unescByte refB .s450 0xF2 = 0x02 ∧
      after (exec (.unesc .s450 0x01) (session .opos)) State.result = some (.byte 0xFE) := by decide

/-- K10 to K14. -/
theorem test_chk :
    checksum refA .s450 [0x43, 0x05, 0x02, 0x10, 0x20] = 0x87 ∧
      checksum refB .s450 [0x43, 0x05, 0x02, 0x10, 0x20] = 0x83 ∧
      checksum refA .opos [0x01, 0x02, 0x31, 0x32] = 0x99 ∧ checksum refA .opos [] = 0xFF ∧
      checksum refA .s450 [] = 0x01 ∧
      after (exec (.chk .opos [0xFF, 0x01]) (session .usb)) State.result = some (.byte 0xFF) := by decide

/-- E2, E3. -/
theorem test_enc_usb :
    after (exec (.encUsb 0x43 9 [0x10, 0x01, 0xA0, 0x1F]) (session .opos)) State.result =
        some (.optBytes (some [0x10, 0x01, 0x10, 0x01, 0xA0, 0x1F])) ∧
      layoutUsb [] = some [0x10, 0x01] := by decide

/-- E4, E15, E28: the lengths. -/
theorem test_enc_lengths (xs : List Byte) :
    (xs.length = 257 → encodeUsb xs = none) ∧ (xs.length = 256 → (encodeUsb xs).isSome = true) ∧
      (xs.length = 256 → encodeOpos refA 1 xs = none) ∧ (xs.length = 256 → encodeS450 refA 0x43 5 xs = none) := by
  refine ⟨?_, ?_, ?_, ?_⟩ <;> intro h <;> simp [encodeUsb, encodeOpos, encodeS450, h]

/-- E8, E9, E11. -/
theorem test_enc_opos :
    after (exec (.encOpos 0 1 [0x1F, 0x04, 0xA0]) (session .usb)) State.result =
        some (.optBytes (some [0x1F, 0x01, 0x03, 0xA0, 0x7F, 0xA0, 0x64, 0xA0, 0x00, 0x38, 0x04])) ∧
      encodeOpos refA 31 [0x41] = some [0x1F, 0xA0, 0x7F, 0x01, 0x41, 0x9E, 0x04] ∧
      encodeOpos refA 0 [1, 2, 3, 5] = some [0x1F, 0x00, 0xA0, 0x64, 1, 2, 3, 5, 0xF0, 0x04] ∧
      encodeOpos refA 32 [0x41] = none := by decide

/-- E12: the checksum byte is itself escaped. -/
theorem test_frame_opos :
    after (exec (.frameOpos 2 [0xDD]) (session .usb)) State.result =
        some (.optBytes (some [0x1F, 0x02, 0x01, 0xDD, 0xA0, 0x7F, 0x04])) ∧
      layoutOpos refA 2 [0x5C] = some [0x1F, 0x02, 0x01, 0x5C, 0xA0, 0x00, 0x04] := by decide

/-- E16, E18, E28. -/
theorem test_enc_s450 :
    after (exec (.encS450 0x53 2 [0x02, 0x03, 0x10, 0xFD, 0xFE, 0xFF]) (session .usb)) State.result =
        some (.optBytes (some [0xFE, 0x53, 0x02, 0x06, 0x02, 0x03, 0x10, 0xFD, 0x00, 0xFD, 0x01, 0xFD, 0x02, 0x97,
          0xFF])) ∧
      encodeS450 refA 0x43 5 [0x10, 0x20] = some [0xFE, 0x43, 0x05, 0x02, 0x10, 0x20, 0x87, 0xFF] ∧
      encodeS450 refA 0x99 5 [0x41] = none ∧ encodeS450 refA 0x43 32 [0x41] = none := by decide

/-- E23, E24 (REFB: the address and the length collide with sentinels), E19. -/
theorem test_frame_s450 :
    layoutS450 refB 0x43 3 [0x41, 0x42, 0x43] =
        some [0x02, 0x43, 0x10, 0xF3, 0x10, 0xF3, 0x41, 0x42, 0x43, 0xEE, 0x03] ∧
      layoutS450 refB 0x53 2 [0x02, 0x03, 0x10, 0xFD, 0xFE, 0xFF] =
        some [0x02, 0x53, 0x10, 0xF2, 0x06, 0x10, 0xF2, 0x10, 0xF3, 0x10, 0x00, 0xFD, 0xFE, 0xFF, 0x93, 0x03] ∧
      after (exec (.frameS450 0x43 1 [0xBE]) (session .usb)) State.result =
        some (.optBytes (some [0xFE, 0x43, 0x01, 0x01, 0xBE, 0xFD, 0x01, 0xFF])) := by decide

/-- E6, E17, E22. -/
theorem test_ack_layouts :
    after (exec (.ackOpos 5) (session .usb)) State.result =
        some (.optBytes (some [0x1F, 0x05, 0x00, 0xFA, 0x04])) ∧
      after (exec (.ackS450 5) (session .usb)) State.result =
        some (.optBytes (some [0xFE, 0x06, 0x05, 0x00, 0xF6, 0xFF])) ∧
      layoutAckS450 refB 5 = some [0x02, 0x06, 0x05, 0x00, 0xF2, 0x03] := by decide

/-- X1, X2, X3. -/
theorem test_dec_usb :
    decodeUsb [0x10, 0x01] = .ok ⟨none, none, []⟩ ∧ decodeUsb [0x10] = .err .short ∧ decodeUsb [] = .err .short ∧
      after (exec (.decUsb [0x55, 0x66, 0x77]) (session .opos)) State.result =
        some (.decoded (.ok ⟨none, none, [0x77]⟩)) := by decide

/-- X6, X7, X8, X9. -/
theorem test_dec_opos :
    after (exec (.decOpos [0x1F, 0x01, 0x03, 0xA0, 0x7F, 0xA0, 0x64, 0xA0, 0x00, 0x38, 0x04]) (session .usb))
        State.result = some (.decoded (.ok ⟨none, some 1, [0x1F, 0x04, 0xA0]⟩)) ∧
      decodeSerial refA .opos [0x1F, 0x05, 0x00, 0xFA, 0x04] = .ok ⟨none, some 5, []⟩ ∧
      decodeSerial refA .opos [0x1F, 0x01, 0x02, 0x31, 0x32, 0x98, 0x04] = .err .csum ∧
      decodeSerial refA .opos [0x1F, 0x00, 0xFF, 0x04] = .err .short := by decide

/-- X10, X11, X12, X13. -/
theorem test_dec_opos_errors :
    decodeSerial refA .opos [0x1F, 0x01, 0x02, 0x31, 0xCB, 0x04] = .err .len ∧
      decodeSerial refA .opos [0x1F, 0x01, 0x02, 0x31, 0x1F, 0x99, 0x04] = .err .delim ∧
      decodeSerial refA .opos [0x1F, 0x01, 0x02, 0x31, 0x32, 0xA0, 0x04] = .err .esc ∧
      decodeSerial refA .opos [0x04, 0x01, 0x00, 0xFE, 0x04] = .err .delim ∧
      decodeSerial refA .s450 [0xFE] = .err .delim := by decide

/-- X15, X16, X17, X21, X22, X25. -/
theorem test_dec_s450 :
    after (exec (.decS450 [0xFE, 0x43, 0x05, 0x01, 0xFD, 0x44, 0x77, 0xFF]) (session .usb)) State.result =
        some (.decoded (.ok ⟨some 0x43, some 5, [0x41]⟩)) ∧
      decodeSerial refA .s450 [0xFE, 0x99, 0x05, 0x01, 0x41, 0x21, 0xFF] = .ok ⟨some 0x99, some 5, [0x41]⟩ ∧
      decodeSerial refA .s450 [0xFE, 0x43, 0x05, 0x02, 0x10, 0x20, 0x86, 0xFF] = .err .csum ∧
      decodeSerial refB .s450 [0x02, 0x10, 0x03, 0x03] = .err .short := by decide

/-- X18, X19, X20. -/
theorem test_dec_s450_errors :
    decodeSerial refA .s450 [0xFE, 0x43, 0x05, 0xFF, 0x10, 0x20, 0x87, 0xFF] = .err .delim ∧
      decodeSerial refA .s450 [0xFE, 0x43, 0x05, 0x02, 0x10, 0x20, 0xFD, 0xFF] = .err .esc ∧
      decodeSerial refA .s450 [0xFE, 0x43, 0x05, 0x03, 0x10, 0x20, 0x86, 0xFF] = .err .len := by decide

/-- X24: the sum is tested before the length byte. -/
theorem test_parse :
    after (exec (.parse .opos [0x05, 0x00, 0xFA]) (session .usb)) State.result =
        some (.decoded (.ok ⟨none, some 5, []⟩)) ∧
      parseBody refA .opos [0x05, 0x01, 0xFA] = .err .csum ∧ parseBody refA .opos [0x05, 0x01, 0xF9] = .err .len := by
  decide

/-! ### The line (95_test_vectors.md sections 3.4 and 3.5) -/

/-- A1, A2. -/
theorem test_rxb_gates :
    after (exec (.rxb 0x1F) { during .opos .idle [] 0 with isOpen := false }) assembler = some (.idle, [], 0) ∧
      refusal (exec (.rxb 0x1F) (session .usb)) = some .noByteStream := by decide

/-- A12, A9 through `RXB`. -/
theorem test_rxb_transitions :
    after (exec (.rxb 0x1F) (during .opos .receiving [1, 2, 3, 4, 5] 15)) (fun t => (assembler t, t.label)) =
        some ((.receiving, [], 0), .drop .resync) ∧
      after (exec (.rxb 0x1F) (during .opos .escapeSeen [1, 3] 4)) assembler =
        some (.receiving, [1, 3, 0xBF], 0xC3) := by decide

/-- A3, A4. -/
theorem test_idle_start :
    after (exec .rxbIdleStartOpos (during .opos .idle [7] 9)) assembler = some (.receiving, [], 0x00) ∧
      after (exec .rxbIdleStartS450 (during .s450 .idle [7] 9)) assembler = some (.receiving, [], 0xFE) := by decide

/-- A5. -/
theorem test_idle_other :
    after (exec (.rxbIdleOtherOpos 0x04) (during .opos .idle [7] 9)) assembler = some (.idle, [7], 9) ∧
      after (exec (.rxbIdleOtherS450 0xFF) (during .s450 .idle [7] 9)) assembler = some (.idle, [7], 9) ∧
      refusal (exec (.rxbIdleOtherS450 0xFE) (during .s450 .idle [7] 9)) = some .rowNotSelected := by decide

/-- A12, and two start delimiters in a row (R154). -/
theorem test_receiving_start :
    after (exec .rxbReceivingStartOpos (during .opos .receiving [] 0)) State.label = some .done ∧
      after (exec .rxbReceivingStartS450 (during .s450 .receiving [0x43] 0x41)) (fun t => (assembler t, t.label)) =
        some ((.receiving, [], 0xFE), .drop .resync) := by decide

/-- A7, A18. -/
theorem test_receiving_stuff :
    after (exec .rxbReceivingStuffOpos (during .opos .receiving [1, 3] 4)) assembler =
        some (.escapeSeen, [1, 3], 4) ∧
      after (exec .rxbReceivingStuffS450 (during .s450 .receiving [] 0xFE)) assembler =
        some (.escapeSeen, [], 0xFE) := by decide

/-- A6, the S450 byte worked by hand (FE + 43 = 41 modulo 256). -/
theorem test_receiving_ord :
    after (exec (.rxbReceivingOrdOpos 0x03) (during .opos .receiving [1] 1)) assembler =
        some (.receiving, [1, 3], 4) ∧
      after (exec (.rxbReceivingOrdS450 0x43) (during .s450 .receiving [] 0xFE)) assembler =
        some (.receiving, [0x43], 0x41) := by decide

/-- A8, A11, A18. -/
theorem test_escape_seen_any :
    after (exec (.rxbEscapeSeenAnyOpos 0xA0) (during .opos .escapeSeen [1, 3, 0xBF, 0xA4] 0x67)) assembler =
        some (.receiving, [1, 3, 0xBF, 0xA4, 0x40], 0xA7) ∧
      after (exec (.rxbEscapeSeenAnyS450 0xFF) (during .s450 .escapeSeen [] 0xFE)) assembler =
        some (.receiving, [0xFC], 0xFA) := by decide

/-- A13, A17. -/
theorem test_receiving_end :
    after (exec .rxbReceivingEndOpos (during .opos .receiving [0x05, 0x00, 0xFA] 0xFF))
        (fun t => (t.ls, t.ackSeen, t.tx)) = some (.idle, true, []) ∧
      after (exec .rxbReceivingEndS450 (during .s450 .receiving [] 0xFE)) (fun t => (t.ls, t.label)) =
        some (.idle, .drop .short) := by decide

/-- P-4, P-8 at their last byte. -/
theorem test_receiving_end_s450 :
    after (exec .rxbReceivingEndS450 (during .s450 .receiving [0x43, 0x05, 0x03, 0x80, 0xFE, 0xFD, 0x3B] 0xFF))
        (fun t => (t.tx, t.ev, t.rspValid)) =
          some ([0xFE, 0x06, 0x05, 0x00, 0xF6, 0xFF], [.unsol [0x80, 0xFE, 0xFD]], false) ∧
      after (exec .rxbReceivingEndS450 (during .s450 .receiving [0x43, 0x05, 0x02, 0x10, 0x20, 0x88] 0x00))
        (fun t => (t.label, t.tx, t.rspValid)) = some (.drop .csum, [], false) := by decide

/-- A15, A16. -/
theorem test_accum_capacity (xs : List Byte) :
    (xs.length = 258 →
        after (exec (.accum 0x41) (during .opos .receiving xs 0)) State.label = some (.drop .overflow)) ∧
      (xs.length = 257 →
        after (exec (.accum 0x41) (during .opos .receiving xs 0)) State.blen = some 258) := by
  constructor <;> intro h <;>
    simp [exec, execAccum, during, session, State.withAssembler, Variant.serial?, accumulate_eq, State.blen, bodyMax,
      headerLength, h, after]

/-- A19, A20. -/
theorem test_rxb_dl :
    after (exec (.rxbDl 0x1F) { during .opos .receiving [1, 2, 3] 6 with dlMode := true, dlAck := 0x06 })
        (fun t => (t.dlAck, t.dlAckValid, assembler t)) = some (0x1F, true, .receiving, [1, 2, 3], 6) ∧
      refusal (exec (.rxbDl 0x1F) (session .opos)) = some .rowNotSelected := by decide

/-- T1, T2. -/
theorem test_rxt_delivers :
    after (exec (.rxt [0x10, 0x01, 0xAA, 0xBB]) (session .usb)) (fun t => (t.rspBuf, t.rspValid, t.ev)) =
        some ([0xAA, 0xBB], true, []) ∧
      after (exec (.rxt [0x10, 0x01, 0x80, 0x07]) (session .usb)) (fun t => (t.rspValid, t.ev)) =
        some (false, [.unsol [0x80, 0x07]]) := by decide

/-- T4, T6, T8. -/
theorem test_rxt_corners :
    after (exec (.rxt [0x10]) (session .usb)) State.label = some (.drop .short) ∧
      after (exec (.rxt []) (session .usb)) State.isOpen = some false ∧
      refusal (exec (.rxt [0x10, 0x01]) (session .opos)) = some .noTransfers := by decide

/-- T9. -/
theorem test_cherr :
    after (exec .cherr { during .opos .receiving [1] 1 with pend := true }) (fun t => (t.isOpen, t.pend, t.ls)) =
      some (false, true, .receiving) := by decide

/-! ### The dispatcher (95_test_vectors.md section 3.6) -/

/-- P-1, P-3. -/
theorem test_dispatch_addr :
    after (exec (.dispatchAddr ⟨some 0x06, some 6, []⟩) (session .s450)) (fun t => (t.label, t.ackSeen)) =
        some (.drop .addr, false) ∧
      after (exec (.dispatchAddr ⟨none, some 37, []⟩) (session .opos)) State.label = some (.drop .addr) := by decide

/-- P-2, A13. -/
theorem test_dispatch_ack :
    after (exec (.dispatchAckS450 ⟨some 0x06, some 5, [1]⟩) (session .s450)) (fun t => (t.ackSeen, t.tx)) =
        some (true, []) ∧
      after (exec (.dispatchAckOpos ⟨none, some 5, []⟩) (session .opos)) (fun t => (t.ackSeen, t.tx)) =
        some (true, []) := by decide

/-- P-5; OPOS with and without `OPOS_AUTO_ACK` (E6). -/
theorem test_dispatch_autoack :
    after (exec (.dispatchAutoack ⟨some 0x43, some 5, [0x10, 0x20]⟩) (session .s450)) (fun t => (t.tx, t.rspBuf)) =
        some ([0xFE, 0x06, 0x05, 0x00, 0xF6, 0xFF], [0x10, 0x20]) ∧
      after (exec (.dispatchAutoack ⟨none, some 5, [0x10]⟩) (session .opos)) State.tx = some [] ∧
      after (exec (.dispatchAutoack ⟨none, some 5, [0x10]⟩) { session .opos with params := refAuto }) State.tx =
        some [0x1F, 0x05, 0x00, 0xFA, 0x04] := by decide

/-- T2, T3. -/
theorem test_deliver :
    after (exec (.deliverUnsol ⟨none, none, [0x80, 0x07]⟩) (session .usb)) State.ev =
        some [.unsol [0x80, 0x07]] ∧
      after (exec (.deliverRsp ⟨none, none, []⟩) (session .usb)) (fun t => (t.rspLen, t.rspValid)) =
        some (0, true) ∧
      after (exec (.dispatchUsb ⟨none, none, [0x81]⟩) (session .usb)) State.rspBuf = some [0x81] := by decide

/-! ### Sending and the exchange (95_test_vectors.md section 3.6) -/

/-- P-10, P-11. -/
theorem test_send :
    after (exec (.send 0x43 [0x10, 0x20] true) { session .s450 with ackSeen := true })
        (fun t => (t.result, t.tx, t.ackSeen)) =
          some (.bool true, [0xFE, 0x43, 0x05, 0x02, 0x10, 0x20, 0x87, 0xFF], false) ∧
      after (exec (.send 0x99 [0x10] true) { session .s450 with ackSeen := true })
        (fun t => (t.result, t.tx, t.ackSeen)) = some (.bool false, [], true) := by decide

/-- P-12: what the spec fixes of a failed write. -/
theorem test_send_failed :
    after (exec (.send 0x43 [0x10, 0x20] false) { session .s450 with ackSeen := true })
        (fun t => (t.result, t.ackSeen, t.isOpen)) = some (.bool false, false, false) := by decide

/-- P-13, P-14, P-15. -/
theorem test_sendw :
    after (exec (.sendw 0x43 [0x10, 0x20] true) { session .s450 with rspValid := true })
        (fun t => (t.result, t.pend, t.rspValid)) = some (.bool true, true, false) ∧
      refusal (exec (.sendw 0x43 [0x10] true) { session .s450 with pend := true }) = some .exchangeOutstanding ∧
      after (exec (.sendw 0x43 [0x10] true) { session .s450 with isOpen := false, rspValid := true })
        (fun t => (t.result, t.pend, t.rspValid)) = some (.bool false, false, true) := by decide

/-- P-16, P-17. -/
theorem test_take :
    after (exec .take { session .s450 with rspValid := true, rspBuf := [0x10, 0x20], pend := true })
        (fun t => (t.result, t.rspValid, t.pend, t.rspLen)) =
          some (.optBytes (some [0x10, 0x20]), false, false, 2) ∧
      after (exec .take { session .s450 with pend := true }) (fun t => (t.result, t.pend)) =
        some (.optBytes none, true) := by decide

/-- P-18. -/
theorem test_expire :
    after (exec .expire { session .opos with pend := true, rspValid := true }) (fun t => (t.pend, t.rspValid)) =
      some (false, true) := by decide

/-- P-19. -/
theorem test_dltake :
    after (exec .dltake { session .opos with dlAckValid := true, dlAck := 0x06 })
        (fun t => (t.result, t.dlAckValid)) = some (.optByte (some 0x06), false) ∧
      after (exec .dltake { session .opos with dlAck := 0x06 }) State.result = some (.optByte none) := by decide

/-- Program P1, step 7. -/
theorem test_rdstat :
    after (exec .rdstat { session .opos with ackSeen := true, rspValid := true, rspBuf := [0x1F, 0x41, 0x42],
                                             pend := true }) State.result =
      some (.status ⟨true, false, false, true, true, 3, true, false, .opos, 5⟩) := by decide

/-! ### Session control (95_test_vectors.md section 3.7) -/

/-- S1. -/
theorem test_reset :
    after (exec .reset { during .opos .receiving [1] 1 with pend := true, trace := true, tx := [7] })
        (fun t => ((t.ls, t.blen, t.isOpen), t.pend, t.trace, t.variant, t.tx)) =
      some ((.idle, 0, false), false, false, .usb, [7]) := by decide

/-- S2, S3, S4. -/
theorem test_cfg :
    after (exec (.cfg 2 1 [0x80]) State.reset)
        (fun t => (t.variant, t.cfgAddr, t.watch.getLsbD 0x80, t.watch.getLsbD 0x81)) =
          some (.opos, 1, true, false) ∧
      refusal (exec (.cfg 3 1 []) State.reset) = some .reservedVariant ∧
      refusal (exec (.cfg 2 32 []) State.reset) = some .addressTooLarge ∧
      refusal (exec (.cfg 0 0 []) (session .opos)) = some .configFrozen := by decide

/-- S5. -/
theorem test_connect_opens :
    after (exec (.connect true) { during .opos .receiving [1] 1 with isOpen := false, ackSeen := true, pend := true,
                                                                     dlMode := true, rspBuf := [9] })
        (fun t => ((t.result, t.isOpen, t.ls), t.ackSeen, t.pend, t.dlMode, t.rspLen)) =
          some ((.bool true, true, .idle), false, true, false, 0) := by decide

/-- S6, S7. -/
theorem test_connect_answers_false :
    after (exec (.connect false) State.reset) (fun t => (t.result, t.isOpen)) = some (.bool false, false) ∧
      after (exec (.connect true) (during .opos .receiving [1] 1)) (fun t => (t.result, assembler t)) =
        some (.bool false, .receiving, [1], 1) := by decide

/-- S8, S9, S10. -/
theorem test_disconnect_settrace_isserial :
    after (exec .disconnect { session .opos with pend := true, rspValid := true })
        (fun t => (t.isOpen, t.pend, t.rspValid)) = some (false, true, true) ∧
      after (exec (.settrace true) (session .opos)) State.trace = some true ∧
      after (exec .isserial (session .usb)) State.result = some (.bool false) ∧
      after (exec .isserial (session .s450)) State.result = some (.bool true) := by decide

/-- S11, S12. -/
theorem test_dlmode :
    after (exec (.dlmode true) { during .opos .receiving [1] 1 with dlAckValid := true })
        (fun t => (t.dlMode, t.dlAckValid, t.ls)) = some (true, false, .receiving) ∧
      refusal (exec (.dlmode true) (session .s450)) = some .notOpos ∧
      refusal (exec (.dlmode true) { session .opos with isOpen := false }) = some .channelClosed := by decide

/-! ### Witnesses: values that meet the hypotheses of the statements, clause by clause -/

theorem test_wit_CfgReplacesTheWholeConfiguration :
    State.reset.isOpen = false ∧ (31 : Nat) ≤ 31 ∧ (0 : Nat) ≤ 31 ∧ (0x80 : Byte) ∈ [(0x80 : Byte)] := by decide

theorem test_wit_CfgIsRefusedExactlyWhenFrozenOrOutOfRange :
    (session .usb).isOpen = true ∧ variantOfCode 3 = none ∧ (32 : Nat) > 31 ∧ ¬(31 : Nat) > 31 := by decide

theorem test_wit_DisconnectClearsOpenOnlyAndIsIdempotent :
    (∃ t, exec .disconnect (session .opos) = next t ∧ t.variant ≠ .usb) ∧
      (∃ t, exec .disconnect (session .usb) = next t ∧ t.variant = .usb) ∧
      ∃ t, exec .disconnect { session .usb with rspValid := true } = next t ∧ t.rspValid = true :=
  ⟨⟨_, rfl, by decide⟩, ⟨_, rfl, by decide⟩, ⟨_, rfl, by decide⟩⟩

theorem test_wit_TraceBitIsStoredAndHasNoProtocolEffect :
    Instr.take ≠ .rdstat ∧ Instr.take ≠ .reset ∧ (∀ x, Instr.take ≠ .settrace x) := by decide

theorem test_wit_DlmodeSwitchesTheModeOfAnOpenOposSession :
    ((session .opos).variant = .opos ∧ (session .opos).isOpen = true) ∧ (session .s450).variant ≠ .opos ∧
      ({ session .opos with isOpen := false } : State).isOpen = false := by decide

theorem test_wit_SendWritesTheFrameOrAnswersFalse :
    State.reset.isOpen = false ∧ ({ session .opos with dlMode := true } : State).dlMode = true ∧
      encodeFor refA (session .s450).variant 0x99 ((session .s450).cfgAddr.setWidth 8) [] = none ∧
      ((session .s450).isOpen = true ∧ (session .s450).dlMode = false ∧
        encodeFor (session .s450).params (session .s450).variant 0x06 ((session .s450).cfgAddr.setWidth 8) [] =
          some [0xFE, 0x06, 0x05, 0x00, 0xF6, 0xFF]) := by decide

theorem test_wit_SendwCreatesAnExchangeWhenSendSucceeds :
    ({ session .usb with pend := true } : State).pend = true ∧ (session .usb).pend = false ∧
      after (exec (.send 0 [] true) (session .usb)) State.result = some (.bool true) ∧
      after (exec (.send 0 [] false) (session .usb)) State.result = some (.bool false) := by decide

/-- TakeHandsOverTheStoredResponse, RdstatAndDltakeReadOut, ExpireClearsPendOnly: both sides of each condition. -/
theorem test_wit_TakeRdstatDltakeExpire :
    ({ session .usb with rspValid := true } : State).rspValid = true ∧ State.reset.rspValid = false ∧
      ({ session .opos with dlAckValid := true } : State).dlAckValid = true ∧ State.reset.dlAckValid = false ∧
      State.reset.pend = false ∧ State.reset.label = .done ∧ State.reset.result = .unit := by decide

theorem test_wit_ExchangeIsCreatedBySendwAndDestroyedByTakeExpireOrReset :
    (∃ t, exec (.sendw 0 [] true) (session .usb) = next t ∧ (session .usb).pend = false ∧ t.pend = true) ∧
      ∃ t, exec .expire { session .usb with pend := true } = next t ∧ t.pend = false :=
  ⟨⟨_, rfl, by decide, by decide⟩, ⟨_, rfl, by decide⟩⟩

theorem test_wit_ReceivedByteRunsTheRowOfTheSummaryTable :
    (session .usb).variant = .usb ∧
      (({ session .s450 with isOpen := false } : State).variant ≠ .usb ∧
        ({ session .s450 with isOpen := false } : State).isOpen = false) ∧
      (({ session .opos with dlMode := true } : State).dlMode = true ∧
        ({ session .opos with dlMode := true } : State).variant ≠ .s450) ∧
      (session .s450).AssemblingIn .s450 .idle ∧ (during .opos .receiving [] 0).AssemblingIn .opos .receiving ∧
      (during .opos .escapeSeen [] 0).AssemblingIn .opos .escapeSeen ∧
      (0x1F : Byte) = startOf refA .opos ∧ (0xA0 : Byte) = stuffOf refA .opos ∧ (0x04 : Byte) = stopOf refA .opos ∧
      isSentinel refA .opos 0x41 = false := by decide

/-- StartDelimiterInIdleBeginsAFrame, IdleIgnoresEveryOtherByte. -/
theorem test_wit_StartDelimiterInIdleAndOtherBytes :
    (session .s450).AssemblingIn .s450 .idle ∧ (session .opos).AssemblingIn .opos .idle ∧
      (0xFF : Byte) ≠ startOf (session .s450).params .s450 := by decide

theorem test_wit_ReceivingRestartsOnStartAndEscapesOnStuff :
    (during .s450 .receiving [] 0xFE).AssemblingIn .s450 .receiving ∧
      (during .opos .receiving [1] 1).AssemblingIn .opos .receiving ∧ (during .opos .receiving [1] 1).blen > 0 := by
  decide

theorem test_wit_DataByteIsAccumulatedOrOverflows (xs : List Byte) (h : xs.length = 258) :
    (during .opos .receiving [] 0).AssemblingIn .opos .receiving ∧ isSentinel refA .opos 0x41 = false ∧
      (during .s450 .escapeSeen [] 0).AssemblingIn .s450 .escapeSeen ∧
      (session .s450).variant = Serial.s450.toVariant ∧ (during .opos .receiving xs 0).blen = bodyMax .opos ∧
      (during .opos .receiving [] 0).blen ≠ bodyMax .opos := by
  refine ⟨by decide, by decide, by decide, by decide, ?_, by decide⟩
  simp [during, session, State.withAssembler, State.blen, bodyMax, headerLength, h]

theorem test_wit_EndDelimiterParsesThenDropsOrDispatches :
    (during .opos .receiving [] 0).AssemblingIn .opos .receiving ∧ parseBody refA .opos [] = .err .short ∧
      parseBody refA .opos [0x05, 0x01, 0xFA] = .err .csum ∧ parseBody refA .opos [0x05, 0x01, 0xF9] = .err .len ∧
      parseBody refA .opos [0x05, 0x00, 0xFA] = .ok ⟨none, some 5, []⟩ := by decide

theorem test_wit_RunningSumDecidesTheSumTest :
    (during .opos .receiving [0x05, 0x00, 0xFA] 0xFF).AssemblingIn .opos .receiving ∧
      (during .opos .receiving [0x05, 0x00, 0xFA] 0xFF).Inv ∧ (during .s450 .receiving [] 0xFE).Inv :=
  ⟨by decide, by decide, by decide⟩

theorem test_wit_DownloadModeCapturesEveryByteRaw :
    let s : State := { session .opos with dlMode := true }
    s.variant = .opos ∧ s.isOpen = true ∧ s.dlMode = true := by decide

theorem test_wit_DownloadModeFreezesTheAssembler :
    (session .opos).variant = .opos ∧ (session .opos).isOpen = true ∧
      ({ session .opos with arrivals := [.named (.dlmode true), .byte 0x06, .named (.dlmode false)] } :
        State).arrivals = .named (.dlmode true) :: ([0x06].map .byte ++ .named (.dlmode false) :: []) := by decide

theorem test_wit_TransferClosesDropsOrDelivers (xs ys : List Byte) (hx : xs.length = 258) (hy : ys.length = 259) :
    (session .opos).variant ≠ .usb ∧ State.reset.variant = .usb ∧ State.reset.isOpen = false ∧
      (session .usb).isOpen = true ∧ ([] : List Byte).length = 0 ∧ [(0x10 : Byte)].length = 1 ∧
      2 ≤ [(0x10 : Byte), 0x01].length ∧ xs.length ≤ 258 ∧ 258 < ys.length := by
  refine ⟨by decide, by decide, by decide, by decide, rfl, rfl, by decide, ?_, ?_⟩ <;> omega

theorem test_wit_AddressFilterDropsForeignFrames :
    (session .s450).variant = Serial.s450.toVariant ∧ Frame.fits .s450 ⟨some 0x43, some 6, []⟩ = true ∧
      (6 : Byte).toNat ≠ (session .s450).cfgAddr.toNat ∧ (5 : Byte).toNat = (session .s450).cfgAddr.toNat ∧
      32 ≤ (37 : Byte).toNat ∧ (37 : Byte).toNat ≠ (session .s450).cfgAddr.toNat ∧
      (255 : Byte).toNat ≠ (session .s450).cfgAddr.toNat := by decide

/-- Serial450AckSetsAckSeenOnly, OposEmptyFrameSetsAckSeenOnly. -/
theorem test_wit_AcksSetAckSeenOnly :
    (Frame.fits .s450 ⟨some 0x06, some 5, [1]⟩ = true ∧ (some 5 : Option Byte) = some ((session .s450).addrByte) ∧
        (some 0x06 : Option Byte) = some (session .s450).params.s450.ftAck) ∧
      Frame.fits .opos ⟨none, some 5, []⟩ = true ∧ (session .opos).variant = .opos := by decide

theorem test_wit_NonAckFrameIsAcknowledgedThenDelivered :
    Frame.fits .s450 ⟨some 0x43, some 5, [0x80]⟩ = true ∧ (5 : Byte) = (session .s450).cfgAddr.setWidth 8 ∧
      (some 0x43 : Option Byte) ≠ some (session .s450).params.s450.ftAck ∧
      watched (session .s450) ⟨some 0x43, some 5, [0x80]⟩ = true ∧
      watched (session .opos) ⟨none, some 5, [0x81]⟩ = false ∧ refAuto.opos.autoAck = true ∧
      refA.opos.autoAck = false := by decide

theorem test_wit_DeliveryRaisesAnEventOrStoresAResponse :
    reachesDeliver (session .usb) ⟨none, none, [0x80]⟩ = true ∧
      (session .usb).watch.getLsbD (0x80 : Byte).toNat = true ∧
      (session .usb).watch.getLsbD (0x81 : Byte).toNat = false ∧
      reachesDeliver (session .usb) ⟨none, none, []⟩ = true ∧
      reachesDeliver (session .s450) ⟨some 0x43, some 5, [0x81]⟩ = true ∧
      reachesDeliver (session .opos) ⟨none, some 5, [0x81]⟩ = true := by decide

/-- For the rules over all operations: an operation that raises each notification, and one that closes. -/
theorem test_wit_OneOperationRaisesAtMostOneNotification :
    (∃ t, exec (.rxt [0x10, 0x01]) (session .usb) = next t ∧ t.rspValid = true) ∧
      (∃ t, exec (.dispatchAckOpos ⟨none, some 5, []⟩) (session .opos) = next t ∧ t.ackSeen = true) ∧
      (∃ t, exec (.rxt [0x10, 0x01, 0x80]) (session .usb) = next t ∧ t.ev ≠ []) ∧
      ∃ t, exec .cherr (session .usb) = next t ∧ t.isOpen = false :=
  ⟨⟨_, rfl, by decide⟩, ⟨_, rfl, by decide⟩, ⟨_, rfl, by decide⟩, ⟨_, rfl, by decide⟩⟩

/-- EscapeReplacesSentinelsOnly, UnescapeAddsTheStuffSentinel. -/
theorem test_wit_EscapeAndUnescape :
    isSentinel refB .s450 0x41 = false ∧ isSentinel refB .s450 0x02 = true ∧
      escByte refB .s450 0x02 = [stuffOf refB .s450, 0xF2] ∧ stuffOf refB .s450 = 0x10 := by decide

/-- X2, X4 and the two sides of each length, X8, X10, X24; the error cases of `PARSE` in the statement's own terms. -/
theorem test_wit_DecodersAnswerWithTheFieldsOfTheBody :
    (∀ xs : List Byte, xs.length = 258 → 2 ≤ xs.length ∧ xs.length ≤ 258) ∧
      (∀ xs : List Byte, xs.length = 259 → 258 < xs.length ∧ decodeUsb xs = .err .long) ∧
      [(0x10 : Byte)].length < 2 ∧ decodeUsb [0x10, 0x01] = .ok ⟨none, none, []⟩ ∧
      [(0x05 : Byte), 0x00].length < headerLength .opos + 1 ∧
      (headerLength .opos + 1 ≤ [(0x05 : Byte), 0x01, 0xFA].length ∧ (0 + (0x05 + 0x01 + 0xFA)) % 256 ≠ 255 ∧
        parseBody refA .opos [0x05, 0x01, 0xFA] = .err .csum) ∧
      ((0 + (0x05 + 0x01 + 0xF9)) % 256 = 255 ∧ (0x01 : Byte).toNat ≠ 3 - 2 - 1 ∧
        parseBody refA .opos [0x05, 0x01, 0xF9] = .err .len) ∧
      parseBody refA .opos [0x05, 0x00, 0xFA] = .ok ⟨none, some 5, []⟩ ∧
      parseBody refA .s450 [0x06, 0x05, 0x00, 0xF6] = .ok ⟨some 0x06, some 5, []⟩ := by
  refine ⟨fun xs h => by omega, fun xs h => ⟨by omega, by simp [decodeUsb, h]⟩, ?_⟩
  decide

/-- The statement's clauses of `DEC.S450` and `DEC.OPOS`: too short, a wrong first byte, a wrong last byte, an escaped
body (E8), and bodies at and over `BODY_MAX` (X14). -/
theorem test_wit_DecodersOfDelimitedBytes :
    ([] : List Byte).length < 2 ∧ ([0x04, 0x04] : List Byte).head? ≠ some (startOf refA .opos) ∧
      ([0x1F, 0x1F] : List Byte).getLast? ≠ some (stopOf refA .opos) ∧
      ([0x1F, 0x01, 0x03, 0xA0, 0x7F, 0xA0, 0x64, 0xA0, 0x00, 0x38, 0x04] : List Byte) =
        [startOf refA .opos] ++ escList refA .opos [0x01, 0x03, 0x1F, 0x04, 0xA0, 0x38] ++ [stopOf refA .opos] ∧
      (∀ body : List Byte, body.length = 258 → body.length ≤ bodyMax .opos) ∧
      (∀ body : List Byte, body.length = 259 → ¬body.length ≤ bodyMax .opos) := by
  refine ⟨by decide, by decide, by decide, by decide, ?_, ?_⟩ <;> intro body h <;>
    simp [bodyMax, headerLength, h]

theorem test_wit_DecodeOfEncodedFrameReturnsTheFrame (xs ys : List Byte) (hx : xs.length = 256)
    (hy : ys.length = 255) :
    xs.length ≤ 256 ∧ ys.length ≤ 255 ∧ (0x43 : Byte) = refA.s450.ftCmd ∧ (31 : Byte).toNat ≤ 31 := by
  refine ⟨?_, ?_, rfl, by decide⟩ <;> omega

theorem test_wit_EncodedFrameHasNoBareSentinel :
    encodeFor refA Serial.opos.toVariant 0 2 [0xDD] = some [0x1F, 0x02, 0x01, 0xDD, 0xA0, 0x7F, 0x04] ∧
      ([0x1F, 0x02, 0x01, 0xDD, 0xA0, 0x7F, 0x04] : List Byte)[4]? = some (stuffOf refA .opos) := by decide

theorem test_wit_SumTestSeesTheRawBytes :
    decodeSerial refA .opos [0x1F, 0x05, 0x00, 0xFA, 0x04] = .ok ⟨none, some 5, []⟩ ∧
      decodeSerial refA .opos [0x1F, 0x01, 0x02, 0x31, 0xCB, 0x04] = .err .len ∧
      decodeSerial refA .opos [0x1F, 0x01, 0x02, 0x31, 0x32, 0x98, 0x04] = .err .csum := by decide

theorem test_wit_SingleBitFlipIsRejectedByWholeFrameDecode :
    decodeSerial refA .opos [0x1F, 0x05, 0x00, 0xFA, 0x04] = .ok ⟨none, some 5, []⟩ ∧
      ([0x1F, 0x05, 0x00, 0xFA, 0x04] : List Byte)[3]? = some 0xFA ∧ 0 < 3 ∧ 3 + 1 < 5 ∧ 7 < 8 := by decide

/-- An open OPOS session for address 1 with the bytes `bs` arriving, then a channel failure. -/
def fed (bs : List Byte) : State :=
  { session .opos with cfgAddr := 1, arrivals := bs.map .byte ++ [.failure] }

theorem test_wit_AssemblerAgreesWithWholeFrameDecode :
    let raw : List Byte := [0x1F, 0x05, 0x00, 0xFA, 0x04]
    let bad : List Byte := [0x1F, 0x01, 0x02, 0x31, 0xCB, 0x04]
    (fed raw).variant = Serial.opos.toVariant ∧ (fed raw).isOpen = true ∧ (fed raw).dlMode = false ∧
      (fed raw).ls ≠ .escapeSeen ∧ (fed raw).arrivals = raw.map .byte ++ [.failure] ∧
      decodeSerial (fed raw).params .opos raw = .ok ⟨none, some 5, []⟩ ∧
      decodeSerial (fed bad).params .opos bad = .err .len ∧
      (DecodeError.len, DropReason.len) ∈
        [(DecodeError.short, DropReason.short), (.csum, .csum), (.len, .len)] := by decide

theorem test_wit_FrameForAnotherAddressIsInvisible :
    let raw : List Byte := [0x1F, 0x06, 0x00, 0xF9, 0x04]
    (fed raw).variant = Serial.opos.toVariant ∧ (fed raw).isOpen = true ∧ (fed raw).dlMode = false ∧
      (fed raw).ls ≠ .escapeSeen ∧ (fed raw).arrivals = raw.map .byte ++ [.failure] ∧
      decodeSerial (fed raw).params .opos raw = .ok ⟨none, some 6, []⟩ ∧
      (some 6 : Option Byte) ≠ some ((fed raw).cfgAddr.setWidth 8) := by decide

theorem test_wit_ResynchronisationAcceptsAFrameNeverSent :
    let raw : List Byte := [0x1F, 0x01, 0x05, 0x5B, 0x1F, 0x01, 0x01, 0x77, 0x86, 0x04]
    let s : State := { fed raw with arrivals := raw.map .byte }
    s.params.opos.us = 0x1F ∧ s.params.opos.eot = 0x04 ∧ s.variant = .opos ∧ s.isOpen = true ∧ s.dlMode = false ∧
      s.ls = .idle ∧ s.cfgAddr = 1 ∧ s.watch.getLsbD 0x77 = false ∧ s.arrivals = raw.map .byte := by decide

theorem test_wit_DecodeOfEncodedOperationIsTheOperation :
    (Instr.rxbReceivingOrdOpos 0x41).wellFormed refA = true ∧
      (⟨refA, .opos, true, false, .receiving⟩ : Context).admits (.rxbReceivingOrdOpos 0x41) = true ∧
      encode refA (.rxbReceivingOrdOpos 0x41) = some (.byte 0x41) ∧
      (⟨refA, .opos, false, false, .idle⟩ : Context).admits (.rxb 0x1F) = true ∧
      encode refA (.rxb 0x1F) = some (.byte 0x1F) ∧ encode refA .take = some (.named .take) := by decide

theorem test_wit_StepRunsTheArrivingOperation :
    ({ session .opos with arrivals := [.byte 0x1F] } : State).arrivals = [.byte 0x1F] ∧
      decode (session .opos).context (.byte 0x1F) = some .rxbIdleStartOpos ∧
      decode (session .opos).context (.named (.accum 0)) = none ∧ State.reset.arrivals = [] := by decide

theorem test_wit_StreamsOnlyGrowAndParametersAreConstant :
    ∃ t, exec (.send 0 [0xAA] true) { session .usb with tx := [7] } = next t ∧ t.tx = [7, 0x10, 0x01, 0xAA] :=
  ⟨_, rfl, by decide⟩

/-- ConfigurationChangesOnlyByCfgWhileClosedOrReset, ControlBitsChangeOnlyByTheirWriters. -/
theorem test_wit_ConfigurationAndControlBits :
    (∃ t, exec (.cfg 2 1 []) State.reset = next t ∧ t.variant ≠ State.reset.variant) ∧
      (∃ t, exec (.connect true) State.reset = next t ∧ State.reset.isOpen = false ∧ t.isOpen = true) ∧
      (∃ t, exec .disconnect (session .opos) = next t ∧ t.isOpen = false) ∧
      (∃ t, exec (.settrace true) (session .opos) = next t ∧ t.trace ≠ (session .opos).trace) ∧
      ∃ t, exec (.dlmode true) (session .opos) = next t ∧ t.dlMode ≠ (session .opos).dlMode :=
  ⟨⟨_, rfl, by decide⟩, ⟨_, rfl, by decide, by decide⟩, ⟨_, rfl, by decide⟩, ⟨_, rfl, by decide⟩,
    ⟨_, rfl, by decide⟩⟩

/-- NamedOperationsLeaveTheAssemblerAlone, NamedOperationsRaiseNoLineFlag. -/
theorem test_wit_NamedOperations :
    Instr.take.isByName = true ∧ Instr.take ≠ .reset ∧ (∀ ok, Instr.take ≠ .connect ok) ∧
      ∃ t, exec .take { session .usb with rspValid := true, ackSeen := true } = next t ∧ t.ackSeen = true :=
  ⟨rfl, by decide, by decide, _, rfl, rfl⟩

theorem test_wit_EveryStepKeepsTheInvariant :
    ({ during .opos .receiving [0x05] 0x05 with arrivals := [.byte 0x00] } : State).Inv ∧
      ∃ t, step { during .opos .receiving [0x05] 0x05 with arrivals := [.byte 0x00] } = next t ∧ t.blen = 2 :=
  ⟨by decide, _, rfl, rfl⟩

/-- The premises of BodyBoundSurvivesReconfiguration at the boundary: an S450 body of 259 bytes, then CFG to OPOS. -/
theorem test_wit_BodyBoundSurvivesReconfiguration (xs : List Byte) (h : xs.length = 259) :
    let s : State :=
      { State.reset with variant := .s450, body := xs, arrivals := [.named (.cfg Variant.opos.code 0 [])] }
    s.variant = Serial.s450.toVariant ∧ s.blen ≤ bodyMax .s450 ∧
      ∃ t, step s = next t ∧ t.variant = Serial.opos.toVariant :=
  ⟨rfl, by simp [State.blen, bodyMax, headerLength, h], _, rfl, rfl⟩

end Sys2Proof.Tests
end

section
/-! The codec's escape and unescape (40_codec.md, R120 and R121): what ESC and UNESC report, and the obligations
about them. -/

namespace Sys2Proof.Proofs

open Sys2Proof.Machine Host.Outcome

/-! ### Escaping as functions of bytes -/

theorem escList_eq_flatMap (p : Params) (v : Serial) (bs : List Byte) :
    escList p v bs = bs.flatMap (escByte p v) := by
  induction bs with
  | nil => rfl
  | cons b bs ih => simp [ih]

/-- R120: the difference modulo 256, so that a byte below the stuff sentinel wraps. -/
theorem image_toNat (p : Params) (v : Serial) (b : Byte) :
    (b - stuffOf p v).toNat = (b.toNat + 256 - (stuffOf p v).toNat) % 256 := by
  bv_omega

theorem unescByte_toNat (p : Params) (v : Serial) (e : Byte) :
    (unescByte p v e).toNat = (e.toNat + (stuffOf p v).toNat) % 256 :=
  BitVec.toNat_add e (stuffOf p v)

/-- An answer of two bytes is the sentinel's: a byte that is no sentinel is answered alone. -/
theorem escByte_eq_pair (p : Params) (v : Serial) (b c e : Byte) (h : escByte p v b = [c, e]) :
    isSentinel p v b = true ∧ c = stuffOf p v ∧ e = b - stuffOf p v := by
  cases hb : isSentinel p v b with
  | false => simp [escByte_ord p v b hb] at h
  | true =>
    simp only [escByte_sentinel p v b hb, List.cons.injEq, and_true] at h
    exact ⟨rfl, h.1.symm, h.2.symm⟩

/-- R121 after R120: the second byte of an escape pair gives back the byte escaped. -/
theorem unescByte_of_escByte_eq_pair (p : Params) (v : Serial) (b c e : Byte) (h : escByte p v b = [c, e]) :
    unescByte p v e = b := by
  obtain ⟨-, -, rfl⟩ := escByte_eq_pair p v b c e h
  exact unescByte_image p v b

/-! ### The two operations -/

theorem exec_esc (v : Serial) (b : Byte) (s : State) :
    exec (.esc v b) s = next { s with label := .done, result := .bytes (escByte s.params v b) } := rfl

theorem exec_unesc (v : Serial) (e : Byte) (s : State) :
    exec (.unesc v e) s = next { s with label := .done, result := .byte (unescByte s.params v e) } := rfl

/-- Settles O33: a sentinel's pair is its image under the difference modulo 256, which WF2 keeps off the sentinels
(`isSentinel_image`). -/
theorem escapeReplacesSentinelsOnly : Obligations.EscapeReplacesSentinelsOnly := by
  intro s v b
  refine ⟨fun hord => ?_, fun hsent => ?_, escList_eq_flatMap s.params v⟩
  · rw [exec_esc, escByte_ord s.params v b hord]
  · refine ⟨b - stuffOf s.params v, ?_, image_toNat s.params v b, isSentinel_image s.params v b hsent, ?_⟩
    · rw [exec_esc, escByte_sentinel s.params v b hsent]
    · rintro rfl
      exact BitVec.sub_self _

/-- Settles O34: the answer is the sum modulo 256, and the second byte of a pair is the difference that it undoes. -/
theorem unescapeAddsTheStuffSentinel : Obligations.UnescapeAddsTheStuffSentinel := fun s v e =>
  ⟨unescByte s.params v e, exec_unesc v e s, unescByte_toNat s.params v e,
    fun b hpair => unescByte_of_escByte_eq_pair s.params v b _ e hpair⟩

end Sys2Proof.Proofs
end

section
/-! The link assembler (41_link_assembler.md): what the start, stuff and end rows do where they are selected, what CHERR
does, and the obligations about them. -/

namespace Sys2Proof.Proofs

open Sys2Proof.Machine Host.Outcome

/-! ### The selected rows, one equation for both serial variants (R162) -/

theorem exec_rowIdleStart (v : Serial) (s : State) (hs : s.AssemblingIn v .idle) :
    exec (rowIdleStart v) s = beginFrame v s := by
  have hsel := (assembling_iff s v .idle).mpr hs
  cases v with
  | s450 => exact if_pos hsel
  | opos => exact if_pos hsel

theorem exec_rowReceivingStart (v : Serial) (s : State) (hs : s.AssemblingIn v .receiving) :
    exec (rowReceivingStart v) s = restartFrame v s := by
  have hsel := (assembling_iff s v .receiving).mpr hs
  cases v with
  | s450 => exact if_pos hsel
  | opos => exact if_pos hsel

theorem exec_rowReceivingStuff (v : Serial) (s : State) (hs : s.AssemblingIn v .receiving) :
    exec (rowReceivingStuff v) s = seeEscape s := by
  have hsel := (assembling_iff s v .receiving).mpr hs
  cases v with
  | s450 => exact if_pos hsel
  | opos => exact if_pos hsel

theorem exec_rowReceivingEnd (v : Serial) (s : State) (hs : s.AssemblingIn v .receiving) :
    exec (rowReceivingEnd v) s = endFrame v s := by
  have hsel := (assembling_iff s v .receiving).mpr hs
  cases v with
  | s450 => exact if_pos hsel
  | opos => exact if_pos hsel

/-! ### The shared steps of the assembler -/

/-- R154: the lost body decides the outcome alone. -/
theorem restartFrame_eq (v : Serial) (s : State) :
    restartFrame v s = next ((s.startBody v).report (if s.blen > 0 then .drop .resync else .done) .unit) := by
  unfold restartFrame
  split
  · rw [finishDrop_eq]
  · rw [finish_eq]

theorem endFrame_of_err (v : Serial) (s : State) (e : DecodeError) (h : parseBody s.params v s.body = .err e) :
    endFrame v s = next ((s.setLs .idle).report (.drop (dropReason e)) .unit) := by
  simp only [endFrame, h, finishDrop_eq]

theorem endFrame_of_ok (v : Serial) (s : State) (f : Frame) (h : parseBody s.params v s.body = .ok f) :
    endFrame v s = dispatchSerial v f (s.setLs .idle) := by
  simp only [endFrame, h]

/-- `DISPATCH(f)` answers a next state with the assembler registers as they were. -/
theorem dispatchSerial_keeps_assembler (v : Serial) (f : Frame) (s : State) :
    ∃ t, dispatchSerial v f s = next t ∧ t.ls = s.ls ∧ t.body = s.body ∧ t.csum = s.csum := by
  obtain ⟨t, hnext, hframe⟩ := dispatchSerial_next v f s
  exact ⟨t, hnext, by rw [hframe], by rw [hframe], by rw [hframe]⟩

/-- Closing a closed session changes nothing. -/
theorem setOpen_false_of_closed (s : State) (h : s.isOpen = false) : s.setOpen false = s := by
  rw [← h]
  rfl

/-- R161: open or closed, CHERR is `open <- 0`. -/
theorem execCherr_eq (s : State) : execCherr s = finish (s.setOpen false) := by
  unfold execCherr
  split
  · rfl
  · next hclosed => rw [setOpen_false_of_closed s (Bool.eq_false_iff.mpr hclosed)]

/-! ### The obligations -/

/-- Settles O17: the row begins a frame, and the seeds are those of R7. -/
theorem startDelimiterInIdleBeginsAFrame : Obligations.StartDelimiterInIdleBeginsAFrame :=
  fun v s hs => ⟨exec_rowIdleStart v s hs, rfl, rfl⟩

/-- Settles O19: the start row restarts the frame, the stuff row sees an escape. -/
theorem receivingRestartsOnStartAndEscapesOnStuff : Obligations.ReceivingRestartsOnStartAndEscapesOnStuff :=
  fun v s hs =>
    ⟨(exec_rowReceivingStart v s hs).trans (restartFrame_eq v s), exec_rowReceivingStuff v s hs⟩

/-- Settles O21: the row ends the frame; `PARSE` decides between the drop and `DISPATCH`, which leaves the assembler
registers alone, and `parseBody_err` bounds the errors. -/
theorem endDelimiterParsesThenDropsOrDispatches : Obligations.EndDelimiterParsesThenDropsOrDispatches := by
  intro v s hs
  rw [exec_rowReceivingEnd v s hs]
  refine ⟨endFrame_of_err v s _, endFrame_of_err v s _, endFrame_of_err v s _, fun f hf => ?_,
    parseBody_err s.params v s.body⟩
  rw [endFrame_of_ok v s f hf]
  exact ⟨rfl, dispatchSerial_keeps_assembler v f (s.setLs .idle)⟩

/-- Settles O26: `open <- 0` whatever the variant, which on a closed session is no change. -/
theorem channelErrorClearsOpenOnly : Obligations.ChannelErrorClearsOpenOnly := execCherr_eq

end Sys2Proof.Proofs
end

section
/-! The dispatcher (42_dispatcher.md): when a frame passes the address filter, what the filter row, the two ACK outcomes
of `DISPATCH` and EXPIRE do, and the obligations about them. -/

namespace Sys2Proof.Proofs

open Sys2Proof.Machine Host.Outcome

/-! ### The address filter (R180) -/

/-- R180: the comparison is of the whole `DEST` byte with the 5-bit `cfg_addr`. -/
theorem passesFilter_iff_dest_toNat (s : State) (f : Frame) (d : Byte) (hd : f.dest = some d) :
    passesFilter s f = true ↔ d.toNat = s.cfgAddr.toNat := by
  rw [← addrByte_toNat, BitVec.toNat_inj]
  simp [passesFilter, hd]

theorem passesFilter_of_dest_addrByte (s : State) (f : Frame) (hd : f.dest = some s.addrByte) :
    passesFilter s f = true :=
  (passesFilter_iff_dest_toNat s f s.addrByte hd).mpr (addrByte_toNat s)

/-- The filter row, where it is selected: in either serial variant, on a frame of that variant. -/
theorem exec_dispatchAddr (s : State) (v : Serial) (f : Frame) (hv : s.variant = v.toVariant)
    (hf : f.fits s.variant = true) :
    exec (.dispatchAddr f) s = if passesFilter s f then finish s else finishDrop .addr s := by
  have hserial : (s.variant != .usb) = true := by
    rw [hv]
    cases v <;> rfl
  exact if_pos (Bool.and_eq_true_iff.mpr ⟨hserial, hf⟩)

/-! ### The two outcomes of `DISPATCH` that deliver nothing -/

theorem dispatchSerial_of_not_passesFilter (v : Serial) (f : Frame) (s : State) (h : passesFilter s f = false) :
    dispatchSerial v f s = next (s.report (.drop .addr) .unit) := by
  obtain ⟨-, hdrop⟩ | ⟨hpass, -⟩ | ⟨hpass, -⟩ := dispatchSerial_cases v f s
  · exact hdrop
  · simp [h] at hpass
  · simp [h] at hpass

theorem dispatchSerial_of_isAck (v : Serial) (f : Frame) (s : State) (hpass : passesFilter s f = true)
    (hack : isAck s v f = true) : dispatchSerial v f s = next ((s.setAckSeen true).report .done .unit) := by
  obtain ⟨hdrop, -⟩ | ⟨-, -, hseen⟩ | ⟨-, hother, -⟩ := dispatchSerial_cases v f s
  · simp [hpass] at hdrop
  · exact hseen
  · simp [hack] at hother

/-- The row of the `S450` ACK, where R181 selects it. -/
theorem exec_dispatchAckS450 (s : State) (f : Frame) (hv : s.variant = .s450) (hf : f.fits .s450 = true)
    (hpass : passesFilter s f = true) (hack : isAck s .s450 f = true) :
    exec (.dispatchAckS450 f) s = finish (s.setAckSeen true) :=
  if_pos (by simp [hv, hf, hpass, hack])

/-! ### EXPIRE (R193) -/

theorem exec_expire (s : State) : exec .expire s = next ((s.setPend false).report .done .unit) := rfl

theorem setPend_false_of_not_pend (s : State) (h : s.pend = false) : s.setPend false = s := by
  rw [← h]
  rfl

theorem report_own (s : State) : s.report s.label s.result = s := rfl

/-! ### The obligations -/

/-- Settles O27: the filter passes exactly where `DEST` equals `cfg_addr` as a number, and `cfg_addr` has five bits. -/
theorem addressFilterDropsForeignFrames : Obligations.AddressFilterDropsForeignFrames := by
  intro s v f d hv hf hd
  have hpass : passesFilter s f = true ↔ d.toNat = s.cfgAddr.toNat := passesFilter_iff_dest_toNat s f d hd
  rw [exec_dispatchAddr s v f hv hf]
  refine ⟨fun hne => ?foreign, fun heq => ?own, fun hbig => ?outside⟩
  case foreign =>
    have hforeign : passesFilter s f = false := Bool.eq_false_iff.mpr (mt hpass.mp hne)
    exact ⟨if_neg (mt hpass.mp hne), dispatchSerial_of_not_passesFilter v f s hforeign⟩
  case own => exact if_pos (hpass.mpr heq)
  case outside =>
    have hfive : s.cfgAddr.toNat < 2 ^ 5 := s.cfgAddr.isLt
    omega

/-- Settles O14: with `pend` and the report already at the values that EXPIRE writes, the state is its own successor. -/
theorem expireClearsPendOnly : Obligations.ExpireClearsPendOnly := by
  refine fun s => ⟨exec_expire s, fun hpend hlabel hresult => ?_⟩
  rw [exec_expire, setPend_false_of_not_pend s hpend, ← hlabel, ← hresult, report_own]

/-- Settles O28: such a frame passes the filter and is an ACK by its type, so the row is selected and `DISPATCH` ends in
the same state. -/
theorem serial450AckSetsAckSeenOnly : Obligations.Serial450AckSetsAckSeenOnly := by
  intro s f hv hf hd ht
  have hpass : passesFilter s f = true := passesFilter_of_dest_addrByte s f hd
  have hack : isAck s .s450 f = true := beq_iff_eq.mpr ht
  rw [exec_dispatchAckS450 s f hv hf hpass hack]
  exact ⟨rfl, dispatchSerial_of_isAck .s450 f s hpass hack⟩

end Sys2Proof.Proofs
end

section
/-! Session control (43_session_control.md): what a closed session does with the line's operations and with TAKE, which
operations end the same whatever `trace` holds, and the obligations about DISCONNECT and SETTRACE. -/

namespace Sys2Proof.Proofs

open Sys2Proof.Machine Host.Outcome

/-! ### DISCONNECT and the operations after it (R213) -/

theorem exec_disconnect (s : State) : exec .disconnect s = next ((s.setOpen false).report .done .unit) := rfl

/-- R150: a byte of a closed serial session is discarded. -/
theorem exec_rxb_of_closed (b : Byte) (s : State) (hclosed : s.isOpen = false) (hserial : s.variant ≠ .usb) :
    exec (.rxb b) s = finish s := by
  cases hv : s.variant with
  | usb => exact absurd hv hserial
  | s450 | opos => simp [exec, execRxb, hv, hclosed, Variant.serial?]

/-- R160: a transfer of a closed USB session is discarded. -/
theorem exec_rxt_of_closed (xfer : List Byte) (s : State) (hclosed : s.isOpen = false) (husb : s.variant = .usb) :
    exec (.rxt xfer) s = finish s := by
  simp [exec, execRxt, husb, hclosed]

/-- R189: TAKE does not look at `open`. -/
theorem exec_take_of_rspValid (s : State) (hvalid : s.rspValid = true) :
    exec .take s = finishWith (.optBytes (some s.rspBuf)) ((s.setRspValid false).setPend false) :=
  if_pos hvalid

/-! ### Operations that do not depend on `trace` (R33, R214) -/

/-- Changing `trace` first and changing it in the next state is the same: `m` neither reads nor writes it. A meaning
of one branch has this by unfolding (`fun _ _ => rfl`). -/
def IgnoresTrace (m : State → Host.Outcome State Fault Refusal) : Prop :=
  ∀ (e : Bool) (s : State), m (s.setTrace e) = mapNext (fun t => t.setTrace e) (m s)

theorem ignoresTrace_refused (r : Refusal) : IgnoresTrace (fun _ => refused r) := fun _ _ => rfl

/-- A choice by a condition that `trace` does not enter, which for the model's conditions holds by unfolding. -/
theorem IgnoresTrace.ite {c : State → Prop} {_ : DecidablePred c} {m n : State → Host.Outcome State Fault Refusal}
    (hm : IgnoresTrace m) (hn : IgnoresTrace n)
    (hc : ∀ e s, c (s.setTrace e) ↔ c s := by exact fun _ _ => Iff.rfl) :
    IgnoresTrace (fun s => if c s then m s else n s) := by
  intro e s
  by_cases h : c s
  · simpa only [hc, h, if_true] using hm e s
  · simpa only [hc, h, if_false] using hn e s

/-- A row that is refused where its condition does not select it. -/
theorem IgnoresTrace.selected {c : State → Prop} {_ : DecidablePred c} {r : Refusal}
    {m : State → Host.Outcome State Fault Refusal} (hm : IgnoresTrace m)
    (hc : ∀ e s, c (s.setTrace e) ↔ c s := by exact fun _ _ => Iff.rfl) :
    IgnoresTrace (fun s => if c s then m s else refused r) :=
  .ite hm (ignoresTrace_refused r) hc

theorem deliver_ignoresTrace (f : Frame) : IgnoresTrace (deliver f) :=
  .ite (fun _ _ => rfl) (fun _ _ => rfl)

theorem acknowledgeAndDeliver_ignoresTrace (v : Serial) (f : Frame) : IgnoresTrace (acknowledgeAndDeliver v f) :=
  fun e s => deliver_ignoresTrace f e (s.emitTx (autoAckBytes s.params v f))

theorem dispatchSerial_ignoresTrace (v : Serial) (f : Frame) : IgnoresTrace (dispatchSerial v f) :=
  .ite (fun _ _ => rfl) (.ite (fun _ _ => rfl) (acknowledgeAndDeliver_ignoresTrace v f))

theorem accumulate_ignoresTrace (v : Serial) (x : Byte) (l : LinkState) : IgnoresTrace (accumulate v x l) :=
  .ite (fun _ _ => rfl) (fun _ _ => rfl)

theorem restartFrame_ignoresTrace (v : Serial) : IgnoresTrace (restartFrame v) :=
  .ite (fun _ _ => rfl) (fun _ _ => rfl)

theorem endFrame_ignoresTrace (v : Serial) : IgnoresTrace (endFrame v) := by
  intro e s
  cases h : parseBody s.params v s.body with
  | err d =>
    rw [endFrame_of_err v s d h, endFrame_of_err v (s.setTrace e) d h]
    rfl
  | ok f =>
    rw [endFrame_of_ok v s f h, endFrame_of_ok v (s.setTrace e) f h]
    exact dispatchSerial_ignoresTrace v f e (s.setLs .idle)

theorem escapedByte_ignoresTrace (v : Serial) (b : Byte) : IgnoresTrace (escapedByte v b) :=
  fun e s => accumulate_ignoresTrace v (unescByte s.params v b) .receiving e s

theorem transition_ignoresTrace (v : Serial) (b : Byte) : IgnoresTrace (transition v b) := by
  intro e s
  simp only [transition, State.setTrace_ls, State.setTrace_params]
  cases s.ls with
  | idle => cases classOf s.params v b <;> rfl
  | receiving =>
    cases classOf s.params v b with
    | start => exact restartFrame_ignoresTrace v e s
    | stuff => rfl
    | stop => exact endFrame_ignoresTrace v e s
    | ord => exact accumulate_ignoresTrace v b .receiving e s
  | escapeSeen => exact escapedByte_ignoresTrace v b e s

theorem execRxb_ignoresTrace (b : Byte) : IgnoresTrace (execRxb b) := by
  intro e s
  simp only [execRxb, State.setTrace_variant]
  cases s.variant.serial? with
  | none => rfl
  | some v =>
    have hgates : IgnoresTrace fun t =>
        if !t.isOpen then finish t else if t.dlMode then finish (t.captureRaw b) else transition v b t :=
      .ite (fun _ _ => rfl) (.ite (fun _ _ => rfl) (transition_ignoresTrace v b))
    exact hgates e s

theorem execAccum_ignoresTrace (x : Byte) : IgnoresTrace (execAccum x) := by
  intro e s
  simp only [execAccum, State.setTrace_variant]
  cases s.variant.serial? with
  | none => rfl
  | some v => exact accumulate_ignoresTrace v x s.ls e s

theorem execRxt_ignoresTrace (xfer : List Byte) : IgnoresTrace (execRxt xfer) := by
  refine .ite (ignoresTrace_refused _) (.ite (fun _ _ => rfl) (.ite (fun _ _ => rfl) ?transfer))
  case transfer =>
    cases decodeUsb xfer with
    | err d => exact fun _ _ => rfl
    | ok f => exact deliver_ignoresTrace f

theorem execDispatchAutoack_ignoresTrace (f : Frame) : IgnoresTrace (execDispatchAutoack f) := by
  intro e s
  simp only [execDispatchAutoack, State.setTrace_variant]
  cases s.variant.serial? with
  | none => rfl
  | some v =>
    have hrow : IgnoresTrace fun t =>
        if reachesDeliver t f then acknowledgeAndDeliver v f t else refused .rowNotSelected :=
      .selected (acknowledgeAndDeliver_ignoresTrace v f)
    exact hrow e s

theorem execCfg_ignoresTrace (code : BitVec 2) (addr : Nat) (w : List Byte) : IgnoresTrace (execCfg code addr w) := by
  refine .ite (ignoresTrace_refused _) ?closed
  case closed =>
    cases variantOfCode code with
    | none => exact ignoresTrace_refused _
    | some v => exact .ite (ignoresTrace_refused _) fun _ _ => rfl

theorem sendFrame_setTrace (ft : Byte) (data : List Byte) (ok e : Bool) (s : State) :
    sendFrame ft data ok (s.setTrace e) = ((sendFrame ft data ok s).1, (sendFrame ft data ok s).2.setTrace e) := by
  by_cases h : s.isOpen = false ∨ s.dlMode = true ∨ encodeFor s.params s.variant ft s.addrByte data = none
  · rw [sendFrame_refused ft data ok s h, sendFrame_refused ft data ok (s.setTrace e) h]
  · simp only [not_or, Bool.not_eq_false, Bool.not_eq_true] at h
    obtain ⟨hopen, hmode, hframe⟩ := h
    obtain ⟨w, hw⟩ := Option.ne_none_iff_exists'.mp hframe
    rw [sendFrame_written ft data w ok s hopen hmode hw, sendFrame_written ft data w ok (s.setTrace e) hopen hmode hw]
    cases ok <;> rfl

theorem execSend_ignoresTrace (ft : Byte) (data : List Byte) (ok : Bool) : IgnoresTrace (execSend ft data ok) := by
  intro e s
  rw [execSend, sendFrame_setTrace]
  rfl

theorem execSendw_ignoresTrace (ft : Byte) (data : List Byte) (ok : Bool) : IgnoresTrace (execSendw ft data ok) := by
  refine .ite (ignoresTrace_refused _) fun e s => ?_
  rw [sendFrame_setTrace]
  obtain ⟨sent, t⟩ := sendFrame ft data ok s
  cases sent <;> rfl

/-- Every operation but the three that name `trace`. Those left to the last line have one branch and read no `trace`
in it. -/
theorem exec_ignoresTrace (i : Instr) (hread : i ≠ .rdstat) (hreset : i ≠ .reset) (hset : ∀ x, i ≠ .settrace x) :
    IgnoresTrace (exec i) := by
  cases i
  case rdstat => exact absurd rfl hread
  case reset => exact absurd rfl hreset
  case settrace x => exact absurd rfl (hset x)
  case cfg code addr w => exact execCfg_ignoresTrace code addr w
  case connect => exact .ite (fun _ _ => rfl) (.ite (fun _ _ => rfl) fun _ _ => rfl)
  case dlmode => exact .ite (ignoresTrace_refused _) (.ite (ignoresTrace_refused _) fun _ _ => rfl)
  case send ft data ok => exact execSend_ignoresTrace ft data ok
  case sendw ft data ok => exact execSendw_ignoresTrace ft data ok
  case take | dltake | cherr => exact .ite (fun _ _ => rfl) fun _ _ => rfl
  case rxb b => exact execRxb_ignoresTrace b
  case rxt xfer => exact execRxt_ignoresTrace xfer
  case accum x => exact execAccum_ignoresTrace x
  case rxbReceivingStartS450 | rxbReceivingStartOpos => exact .selected (restartFrame_ignoresTrace _)
  case rxbReceivingEndS450 | rxbReceivingEndOpos => exact .selected (endFrame_ignoresTrace _)
  case rxbReceivingOrdS450 b | rxbReceivingOrdOpos b => exact .selected (accumulate_ignoresTrace _ b .receiving)
  case rxbEscapeSeenAnyS450 b | rxbEscapeSeenAnyOpos b => exact .selected (escapedByte_ignoresTrace _ b)
  case rxbDl | rxbIdleStartS450 | rxbIdleStartOpos | rxbIdleOtherS450 | rxbIdleOtherOpos | rxbReceivingStuffS450 |
      rxbReceivingStuffOpos | dispatchAckS450 | dispatchAckOpos | deliverUnsol | deliverRsp =>
    exact .selected (fun _ _ => rfl)
  case dispatchAddr => exact .selected (.ite (fun _ _ => rfl) fun _ _ => rfl)
  case dispatchAutoack f => exact execDispatchAutoack_ignoresTrace f
  case dispatchUsb f => exact .selected (deliver_ignoresTrace f)
  all_goals exact fun _ _ => rfl

/-! ### The operations that name `trace` -/

theorem exec_settrace (s : State) (e : Bool) : exec (.settrace e) s = next ((s.setTrace e).report .done .unit) := rfl

/-- RESET and SETTRACE write `trace` without reading it. -/
theorem exec_setTrace_of_overwrites (i : Instr) (s : State) (e : Bool) (h : i = .reset ∨ ∃ x, i = .settrace x) :
    exec i (s.setTrace e) = exec i s := by
  obtain rfl | ⟨x, rfl⟩ := h
  · rfl
  · rfl

/-- R190: RDSTAT shows the bit. -/
theorem exec_rdstat_setTrace (s : State) (e : Bool) :
    exec .rdstat (s.setTrace e) =
      next ((s.setTrace e).report .done (.status { s.status with trace := e })) := rfl

/-! ### The obligations -/

/-- Settles O7: the three operations that name `trace` by their equations, every other one by `exec_ignoresTrace`. -/
theorem traceBitIsStoredAndHasNoProtocolEffect : Obligations.TraceBitIsStoredAndHasNoProtocolEffect :=
  ⟨exec_settrace, fun i s e hread hreset hset => exec_ignoresTrace i hread hreset hset e s,
    exec_setTrace_of_overwrites, exec_rdstat_setTrace⟩

/-- Settles O6: the state after DISCONNECT is closed and its report is the one that a discarded byte or transfer writes
again; its response is that of the state before. -/
theorem disconnectClearsOpenOnlyAndIsIdempotent : Obligations.DisconnectClearsOpenOnlyAndIsIdempotent := by
  refine fun s => ⟨exec_disconnect s, fun t ht => ?_⟩
  rw [exec_disconnect] at ht
  cases ht
  exact ⟨rfl, fun b => exec_rxb_of_closed b _ rfl, fun xs => exec_rxt_of_closed xs _ rfl,
    fun hvalid => ⟨_, exec_take_of_rspValid _ hvalid, rfl⟩⟩

end Sys2Proof.Proofs
end

section
/-! Whole frames of the codec (40_codec.md): what the encoders build, what the decoders read back from it, and the
obligations about encoding, decoding and the sum test. -/

namespace Sys2Proof.Proofs

open Sys2Proof.Machine Host.Outcome

/-! ### The header of a body and the frame it carries (R82, R83) -/

/-- The body bytes before a payload of `n` bytes; OPOS has no type byte. -/
def headerBytes (v : Serial) (ft d : Byte) (n : Nat) : List Byte :=
  match v with
  | .s450 => [ft, d, BitVec.ofNat 8 n]
  | .opos => [d, BitVec.ofNat 8 n]

/-- The frame that such a header and payload make. -/
def frameOf (v : Serial) (ft d : Byte) (payload : List Byte) : Frame :=
  match v with
  | .s450 => ⟨some ft, some d, payload⟩
  | .opos => ⟨none, some d, payload⟩

@[simp] theorem headerBytes_length (v : Serial) (ft d : Byte) (n : Nat) :
    (headerBytes v ft d n).length = headerLength v := by
  cases v <;> rfl

/-- The field `LEN` is the last header byte. -/
theorem headerBytes_append_getD (v : Serial) (ft d : Byte) (n : Nat) (xs : List Byte) :
    (headerBytes v ft d n ++ xs).getD (headerLength v - 1) 0 = BitVec.ofNat 8 n := by
  cases v <;> rfl

theorem bodyFields_headerBytes (v : Serial) (ft d : Byte) (n : Nat) (xs payload : List Byte) :
    bodyFields v (headerBytes v ft d n ++ xs) payload = frameOf v ft d payload := by
  cases v <;> rfl

theorem ofNat_length_toNat (data : List Byte) (h : data.length ≤ 255) :
    (BitVec.ofNat 8 data.length).toNat = data.length := by
  rw [BitVec.toNat_ofNat]
  omega

/-! ### The checksum and the sum test (R122, R130) -/

/-- The checksum byte is the one that brings the running sum to `0xFF`. -/
theorem seed_add_byteSum_checksum (p : Params) (v : Serial) (hp : List Byte) :
    seed p v + byteSum (hp ++ [checksum p v hp]) = 0xFF := by
  simp only [byteSum_append, byteSum_cons, byteSum_nil, checksum]
  ring

theorem sumGood_iff (p : Params) (v : Serial) (body : List Byte) :
    sumGood p v body = true ↔ seed p v + byteSum body = 0xFF := by
  simp [sumGood, Config.csumGood]

/-- R131: a sum of bytes modulo 256 is the integer sum reduced once. -/
theorem add_byteSum_eq_ff_iff (a : Byte) (xs : List Byte) :
    a + byteSum xs = 0xFF ↔ (a.toNat + (xs.map BitVec.toNat).sum) % 256 = 255 := by
  rw [← BitVec.toNat_inj, BitVec.toNat_add, byteSum_toNat, Nat.add_mod_mod]
  rfl

/-! ### `PARSE` (R130) -/

theorem parseBody_of_short (p : Params) (v : Serial) (body : List Byte) (h : body.length < headerLength v + 1) :
    parseBody p v body = .err .short :=
  if_pos h

theorem parseBody_of_badSum (p : Params) (v : Serial) (body : List Byte) (hlen : headerLength v + 1 ≤ body.length)
    (hsum : sumGood p v body = false) : parseBody p v body = .err .csum := by
  simp [parseBody, Nat.not_lt.mpr hlen, hsum]

/-- A body that is long enough and has a good sum is decided by its `LEN`. -/
theorem parseBody_of_goodSum (p : Params) (v : Serial) (body : List Byte) (hlen : headerLength v + 1 ≤ body.length)
    (hsum : sumGood p v body = true) :
    parseBody p v body =
      if (body.getD (headerLength v - 1) 0).toNat = body.length - headerLength v - 1 then
        .ok (bodyFields v body (body.drop (headerLength v)).dropLast)
      else .err .len := by
  simp [parseBody, Nat.not_lt.mpr hlen, hsum, ite_not]

theorem sumGood_of_parseBody_ok (p : Params) (v : Serial) (body : List Byte) (f : Frame)
    (h : parseBody p v body = .ok f) : sumGood p v body = true := by
  obtain ⟨-, hsum, -, -⟩ := parseBody_ok p v body f h
  exact (sumGood_iff p v body).mpr hsum

/-- The sum is tested before `LEN`. -/
theorem sumGood_of_parseBody_len (p : Params) (v : Serial) (body : List Byte) (h : parseBody p v body = .err .len) :
    sumGood p v body = true := by
  by_contra hbad
  by_cases hlen : headerLength v + 1 ≤ body.length
  · simp [parseBody_of_badSum p v body hlen (Bool.eq_false_iff.mpr hbad)] at h
  · simp [parseBody_of_short p v body (Nat.lt_of_not_le hlen)] at h

theorem not_sumGood_of_parseBody_csum (p : Params) (v : Serial) (body : List Byte)
    (h : parseBody p v body = .err .csum) : sumGood p v body = false := by
  by_contra hgood
  rw [Bool.not_eq_false] at hgood
  by_cases hlen : headerLength v + 1 ≤ body.length
  · rw [parseBody_of_goodSum p v body hlen hgood] at h
    split at h <;> cases h
  · simp [parseBody_of_short p v body (Nat.lt_of_not_le hlen)] at h

/-- `PARSE` reads back the body that header, payload and checksum make. -/
theorem parseBody_encoded (p : Params) (v : Serial) (ft d : Byte) (data : List Byte) (h : data.length ≤ 255) :
    parseBody p v (headerBytes v ft d data.length ++ data ++
      [checksum p v (headerBytes v ft d data.length ++ data)]) = .ok (frameOf v ft d data) := by
  rw [parseBody_of_goodSum p v _ (by simp) ((sumGood_iff p v _).mpr (seed_add_byteSum_checksum p v _)),
    List.append_assoc, headerBytes_append_getD, ofNat_length_toNat data h, if_pos (by simp),
    bodyFields_headerBytes]
  simp

/-! ### Whole-frame decode (R128, R129) -/

/-- Bytes between the two delimiters are decoded by the scan. -/
theorem decodeSerial_delimited (p : Params) (v : Serial) (mid : List Byte) :
    decodeSerial p v (startOf p v :: (mid ++ [stopOf p v])) = scanInterior p v [] false mid := by
  have hlast : (startOf p v :: (mid ++ [stopOf p v])).getLast? = some (stopOf p v) := by
    rw [← List.cons_append, List.getLast?_concat]
  simp [decodeSerial, hlast]

theorem decodeSerial_of_not_delimited (p : Params) (v : Serial) (raw : List Byte)
    (h : raw.length < 2 ∨ raw.head? ≠ some (startOf p v) ∨ raw.getLast? ≠ some (stopOf p v)) :
    decodeSerial p v raw = .err .delim :=
  if_pos h

/-- Either bytes stand between the delimiters or `E_DELIM` is the answer. -/
theorem decodeSerial_cases (p : Params) (v : Serial) (raw : List Byte) :
    decodeSerial p v raw = .err .delim ∨ ∃ mid, raw = startOf p v :: (mid ++ [stopOf p v]) := by
  by_cases hdelim : raw.length < 2 ∨ raw.head? ≠ some (startOf p v) ∨ raw.getLast? ≠ some (stopOf p v)
  · exact .inl (decodeSerial_of_not_delimited p v raw hdelim)
  · simp only [not_or, not_not] at hdelim
    obtain ⟨hlen, hhead, hlast⟩ := hdelim
    obtain ⟨tail, rfl⟩ : ∃ tail, raw = startOf p v :: tail := List.head?_eq_some_iff.mp hhead
    have htail : tail ≠ [] := by
      rintro rfl
      simp at hlen
    have hstop : tail.getLast htail = stopOf p v := by
      rwa [List.getLast?_cons_of_ne_nil htail, List.getLast?_eq_some_getLast htail, Option.some_inj] at hlast
    exact .inr ⟨tail.dropLast, by rw [← hstop, List.dropLast_append_getLast htail]⟩

/-- The escaped image of a body between the delimiters decodes to what `PARSE` answers for the body, as long as it keeps
within its capacity. -/
theorem decodeSerial_escaped (p : Params) (v : Serial) (body : List Byte) :
    decodeSerial p v ([startOf p v] ++ escList p v body ++ [stopOf p v]) =
      if body.length ≤ bodyMax v then parseBody p v body else .err .overflow := by
  rw [List.append_assoc, List.singleton_append, decodeSerial_delimited]
  split
  · next hfits =>
    have hscan := scanInterior_escList p v body [] [] (by simpa using hfits)
    simpa [scanInterior] using hscan
  · next hlong =>
    have hscan := scanInterior_escList_overflow p v body [] [] (by simp) (by simpa using hlong)
    simpa using hscan

/-! ### The encoders (R124 to R126) -/

theorem encodeUsb_eq_none_iff (data : List Byte) : encodeUsb data = none ↔ 256 < data.length := by
  simp [encodeUsb]

/-- Where an encoder of a serial variant answers, it answers the frame round header and payload, and the operands are in
range. -/
theorem encodeFor_eq_some (p : Params) (v : Serial) (ft d : Byte) (data w : List Byte)
    (h : encodeFor p v.toVariant ft d data = some w) :
    data.length ≤ 255 ∧ w = frameAround p v (headerBytes v ft d data.length ++ data) := by
  cases v with
  | s450 =>
    simp only [encodeFor, Serial.toVariant, encodeS450, Option.ite_none_left_eq_some, Option.some_inj] at h
    obtain ⟨-, -, hlen, rfl⟩ := h
    exact ⟨Nat.not_lt.mp hlen, rfl⟩
  | opos =>
    simp only [encodeFor, Serial.toVariant, encodeOpos, Option.ite_none_left_eq_some, Option.some_inj] at h
    obtain ⟨-, hlen, rfl⟩ := h
    exact ⟨Nat.not_lt.mp hlen, rfl⟩

theorem encodeS450_eq_some (p : Params) (ft d : Byte) (data : List Byte)
    (hft : ft = p.s450.ftAck ∨ ft = p.s450.ftSystem ∨ ft = p.s450.ftCmd) (hd : d.toNat ≤ 31)
    (hlen : data.length ≤ 255) :
    encodeS450 p ft d data = some (frameAround p .s450 (headerBytes .s450 ft d data.length ++ data)) := by
  have hdef : ¬(ft ≠ p.s450.ftAck ∧ ft ≠ p.s450.ftSystem ∧ ft ≠ p.s450.ftCmd) := by tauto
  rw [encodeS450, if_neg hdef, if_neg (by omega), if_neg (by omega)]
  rfl

/-- The type operand stands in `headerBytes` only to be ignored: the format has no field for it. -/
theorem encodeOpos_eq_some (p : Params) (ft d : Byte) (data : List Byte) (hd : d.toNat ≤ 31)
    (hlen : data.length ≤ 255) :
    encodeOpos p d data = some (frameAround p .opos (headerBytes .opos ft d data.length ++ data)) := by
  rw [encodeOpos, if_neg (by omega), if_neg (by omega)]
  rfl

/-- R133: whole-frame decode of the frame round header and payload. -/
theorem decodeSerial_frameAround (p : Params) (v : Serial) (ft d : Byte) (data : List Byte)
    (hlen : data.length ≤ 255) :
    decodeSerial p v (frameAround p v (headerBytes v ft d data.length ++ data)) = .ok (frameOf v ft d data) := by
  have hfits : (headerBytes v ft d data.length ++ data ++
      [checksum p v (headerBytes v ft d data.length ++ data)]).length ≤ bodyMax v := by
    simp [bodyMax]
    omega
  rw [frameAround, decodeSerial_escaped, if_pos hfits, parseBody_encoded p v ft d data hlen]

theorem decodeUsb_of_length (raw : List Byte) (hlo : 2 ≤ raw.length) (hhi : raw.length ≤ 258) :
    decodeUsb raw = .ok ⟨none, none, raw.drop 2⟩ := by
  rw [decodeUsb, if_neg (by omega), if_neg (by omega)]

theorem decodeUsb_of_long (raw : List Byte) (h : 258 < raw.length) : decodeUsb raw = .err .long := by
  rw [decodeUsb, if_neg (by omega), if_pos h]

/-- Settles O38: each encoder answers its frame, the scan un-escapes it (`scanInterior_escList`) and `PARSE` finds a
good sum and the fields it was built from. -/
theorem decodeOfEncodedFrameReturnsTheFrame : Obligations.DecodeOfEncodedFrameReturnsTheFrame := by
  refine fun p => ⟨fun data hlen => ?usb, fun ft d data hft hd hlen => ?s450, fun d data hd hlen => ?opos⟩
  case usb =>
    refine ⟨_, if_neg (by omega), ?_⟩
    rw [decodeUsb_of_length _ (by simp) (by simp; omega)]
    rfl
  case s450 =>
    exact ⟨_, encodeS450_eq_some p ft d data hft hd hlen, decodeSerial_frameAround p .s450 ft d data hlen⟩
  case opos =>
    exact ⟨_, encodeOpos_eq_some p 0 d data hd hlen, decodeSerial_frameAround p .opos 0 d data hlen⟩

end Sys2Proof.Proofs
end

section
/-! What the wire shows of a frame (40_codec.md section 5): sentinels, raw sums and flipped bits, and the obligations
about the operations of the codec. -/

namespace Sys2Proof.Proofs

open Sys2Proof.Machine Host.Outcome

/-! ### Sentinels in escaped bytes (R120, R136) -/

/-- An escaped byte is a stuff sentinel or none. -/
theorem mem_escByte (p : Params) (v : Serial) (b x : Byte) (h : x ∈ escByte p v b) :
    x = stuffOf p v ∨ isSentinel p v x = false := by
  cases hb : isSentinel p v b with
  | false =>
    rw [escByte_ord p v b hb, List.mem_singleton] at h
    exact .inr (h ▸ hb)
  | true =>
    rw [escByte_sentinel p v b hb, List.mem_pair] at h
    obtain rfl | rfl := h
    · exact .inl rfl
    · exact .inr (isSentinel_image p v b hb)

theorem mem_escList (p : Params) (v : Serial) (bs : List Byte) (x : Byte) (h : x ∈ escList p v bs) :
    x = stuffOf p v ∨ isSentinel p v x = false := by
  rw [escList_eq_flatMap, List.mem_flatMap] at h
  obtain ⟨b, -, hx⟩ := h
  exact mem_escByte p v b x hx

theorem startOf_notMem_escList (p : Params) (v : Serial) (bs : List Byte) : startOf p v ∉ escList p v bs := by
  intro h
  obtain hstuff | hclear := mem_escList p v bs _ h
  · exact startOf_ne_stuffOf p v hstuff
  · exact absurd ((isSentinel_iff p v _).mpr (.inl rfl)) (Bool.eq_false_iff.mp hclear)

theorem stopOf_notMem_escList (p : Params) (v : Serial) (bs : List Byte) : stopOf p v ∉ escList p v bs := by
  intro h
  obtain hstuff | hclear := mem_escList p v bs _ h
  · exact stopOf_ne_stuffOf p v hstuff
  · exact absurd ((isSentinel_iff p v _).mpr (.inr (.inl rfl))) (Bool.eq_false_iff.mp hclear)

/-- A stuff sentinel among escaped bytes is followed by the image of a sentinel. -/
theorem escList_stuff_followed (p : Params) (v : Serial) (bs : List Byte) :
    ∀ k, (escList p v bs)[k]? = some (stuffOf p v) →
      ∃ e, (escList p v bs)[k + 1]? = some e ∧ isSentinel p v e = false ∧ isSentinel p v (unescByte p v e) = true := by
  have hstuff : isSentinel p v (stuffOf p v) = true := (isSentinel_iff p v _).mpr (.inr (.inr rfl))
  induction bs with
  | nil => simp
  | cons b bs ih =>
    intro k hk
    cases hb : isSentinel p v b with
    | false =>
      rw [escList_cons, escByte_ord p v b hb, List.singleton_append] at hk ⊢
      cases k with
      | zero =>
        obtain rfl : b = stuffOf p v := by simpa using hk
        simp [hstuff] at hb
      | succ k => exact ih k hk
    | true =>
      rw [escList_cons, escByte_sentinel p v b hb, List.cons_append, List.singleton_append] at hk ⊢
      match k with
      | 0 => exact ⟨_, rfl, isSentinel_image p v b hb, by rw [unescByte_image, hb]⟩
      | 1 =>
        have himage := isSentinel_image p v b hb
        obtain hsame : b - stuffOf p v = stuffOf p v := by simpa using hk
        simp [hsame, hstuff] at himage
      | k + 2 => exact ih k hk

theorem encodeFor_eq_delimited (p : Params) (v : Serial) (ft d : Byte) (data w : List Byte)
    (h : encodeFor p v.toVariant ft d data = some w) :
    ∃ body, w = startOf p v :: (escList p v body ++ [stopOf p v]) := by
  obtain ⟨-, rfl⟩ := encodeFor_eq_some p v ft d data w h
  exact ⟨_, by rw [frameAround, List.append_assoc, List.singleton_append]⟩

/-- Settles O39: `w` is the start delimiter, escaped bytes, which hold neither delimiter, and the end delimiter. -/
theorem encodedFrameHasNoBareSentinel : Obligations.EncodedFrameHasNoBareSentinel := by
  intro p v ft d data w hw k hk
  obtain ⟨body, rfl⟩ := encodeFor_eq_delimited p v ft d data w hw
  have hends := startOf_ne_stopOf p v
  cases k with
  | zero => simp [hends, startOf_ne_stuffOf p v]
  | succ k =>
    simp only [List.length_cons, List.length_append, List.length_nil, List.getElem?_cons_succ] at hk ⊢
    obtain hin | rfl : k < (escList p v body).length ∨ k = (escList p v body).length := by omega
    · rw [List.getElem?_append_left hin]
      have hmem : ∀ x, (escList p v body)[k]? = some x → x ∈ escList p v body := fun x => List.mem_of_getElem?
      refine ⟨⟨fun h => absurd (hmem _ h) (startOf_notMem_escList p v body), by omega⟩,
        ⟨fun h => absurd (hmem _ h) (stopOf_notMem_escList p v body), by omega⟩, fun h => ?_⟩
      obtain ⟨e, hnext, hclear, himage⟩ := escList_stuff_followed p v body k h
      obtain ⟨hin', -⟩ := List.getElem?_eq_some_iff.mp hnext
      exact ⟨e, by rw [List.getElem?_append_left hin', hnext], by omega, hclear, himage⟩
    · simp [hends.symm, stopOf_ne_stuffOf p v]

/-! ### The sum test of the raw bytes (R135) -/

/-- An answer that `PARSE` can give (`parseBody_err`): none of the errors of the delimiters and of the scan. -/
def IsParseAnswer (r : DecodeResult) : Prop :=
  ∀ e, r = .err e → e = .short ∨ e = .csum ∨ e = .len

theorem isParseAnswer_ok (f : Frame) : IsParseAnswer (.ok f) := nofun

theorem isParseAnswer_err (e : DecodeError) : IsParseAnswer (.err e) ↔ e = .short ∨ e = .csum ∨ e = .len :=
  ⟨fun h => h e rfl, fun h _ he => DecodeResult.err.inj he ▸ h⟩

/-- Where whole-frame decode answers what `PARSE` can answer, it parsed a body with the sum of the raw bytes between the
delimiters. -/
theorem decodeSerial_parses (p : Params) (v : Serial) (raw : List Byte) (r : DecodeResult)
    (h : decodeSerial p v raw = r) (hr : IsParseAnswer r) :
    ∃ body, parseBody p v body = r ∧ byteSum body = byteSum (raw.drop 1).dropLast := by
  obtain hbad | ⟨mid, rfl⟩ := decodeSerial_cases p v raw
  · simpa using hr _ (h.symm.trans hbad)
  · rw [decodeSerial_delimited] at h
    obtain ⟨body, hparse, hsum⟩ | hbad | hbad | hbad := scanInterior_reaches_parse p v mid [] false
    · exact ⟨body, by rw [← hparse, h], by simpa using hsum⟩
    · simpa using hr _ (h.symm.trans hbad)
    · simpa using hr _ (h.symm.trans hbad)
    · simpa using hr _ (h.symm.trans hbad)

theorem interiorSum_of_decodeSerial_ok (p : Params) (v : Serial) (raw : List Byte) (f : Frame)
    (h : decodeSerial p v raw = .ok f) : seed p v + byteSum (raw.drop 1).dropLast = 0xFF := by
  obtain ⟨body, hparse, hsum⟩ := decodeSerial_parses p v raw _ h (isParseAnswer_ok f)
  rw [← hsum]
  exact (sumGood_iff p v body).mp (sumGood_of_parseBody_ok p v body f hparse)

/-- Settles O40: the body that `PARSE` tested has the sum of the raw bytes (`decodeSerial_parses`). -/
theorem sumTestSeesTheRawBytes : Obligations.SumTestSeesTheRawBytes := by
  intro p v raw
  dsimp only
  rw [Ne, ← add_byteSum_eq_ff_iff]
  refine ⟨interiorSum_of_decodeSerial_ok p v raw, fun h => ?len, fun h => ?csum⟩
  all_goals
    obtain ⟨body, hparse, hsum⟩ := decodeSerial_parses p v raw _ h ((isParseAnswer_err _).mpr (by decide))
    rw [← hsum, ← sumGood_iff]
  case len => exact sumGood_of_parseBody_len p v body hparse
  case csum => exact Bool.eq_false_iff.mp (not_sumGood_of_parseBody_csum p v body hparse)

/-! ### One flipped bit (R137) -/

/-- Replacing one byte of a list changes the sum by the difference. -/
theorem byteSum_set (xs : List Byte) (y : Byte) :
    ∀ k x, xs[k]? = some x → byteSum (xs.set k y) + x = byteSum xs + y := by
  induction xs with
  | nil => simp
  | cons z zs ih =>
    intro k x hk
    cases k with
    | zero =>
      obtain rfl : z = x := by simpa using hk
      simp only [List.set_cons_zero, byteSum_cons]
      ring
    | succ k =>
      have htail := ih k x hk
      simp only [List.set_cons_succ, byteSum_cons, add_assoc, htail]

theorem xor_bit_ne (b : Byte) (j : Nat) (hj : j < 8) : b ^^^ (1#8 <<< j) ≠ b := by
  intro h
  have hbit := congrArg (fun x : Byte => x.getLsbD j) h
  simp [hj] at hbit

/-- Settles O41: both lists of raw bytes would sum to `0xFF` with the seed, but they differ in one byte. -/
theorem singleBitFlipIsRejectedByWholeFrameDecode : Obligations.SingleBitFlipIsRejectedByWholeFrameDecode := by
  intro p v raw f k b j hok hpos hlast hk hj
  obtain ⟨k, rfl⟩ : ∃ i, k = i + 1 := Nat.exists_eq_add_one.mpr hpos
  obtain hbad | ⟨mid, rfl⟩ := decodeSerial_cases p v raw
  · cases hok.symm.trans hbad
  have hin : k < mid.length := by simpa using hlast
  have hb : mid[k]? = some b := by simpa [List.getElem?_append_left hin] using hk
  rw [List.set_cons_succ, List.set_append_left k _ hin]
  cases hflip : decodeSerial p v (startOf p v :: (mid.set k (b ^^^ (1#8 <<< j)) ++ [stopOf p v])) with
  | err e => exact ⟨e, rfl⟩
  | ok g =>
    have hsum : seed p v + byteSum mid = 0xFF := by
      simpa using interiorSum_of_decodeSerial_ok p v _ f hok
    have hsum' : seed p v + byteSum (mid.set k (b ^^^ (1#8 <<< j))) = 0xFF := by
      simpa using interiorSum_of_decodeSerial_ok p v _ g hflip
    have hdiff := byteSum_set mid (b ^^^ (1#8 <<< j)) k b hb
    rw [add_left_cancel (hsum'.trans hsum.symm)] at hdiff
    exact absurd (add_left_cancel hdiff).symm (xor_bit_ne b j hj)

/-! ### The operations of the codec -/

theorem checksum_toNat (p : Params) (v : Serial) (hp : List Byte) :
    (checksum p v hp).toNat = (255 - ((seed p v).toNat + (hp.map BitVec.toNat).sum) % 256) % 256 := by
  have hbound : ((seed p v).toNat + (hp.map BitVec.toNat).sum) % 256 < 256 := Nat.mod_lt _ (by decide)
  have hff : (0xFF : Byte).toNat = 255 := rfl
  rw [checksum, BitVec.toNat_sub, BitVec.toNat_add, byteSum_toNat, Nat.add_mod_mod, hff]
  omega

/-- Settles O35: the integer sum reduced once (`byteSum_toNat`) and the byte accumulator (`foldl_add_eq_byteSum`) end
alike. -/
theorem checksumComplementsTheSumReducedOnce : Obligations.ChecksumComplementsTheSumReducedOnce := fun s v hp =>
  ⟨checksum s.params v hp, rfl, checksum_toNat s.params v hp, by rw [foldl_add_eq_byteSum]; rfl, rfl, rfl⟩

/-! ### The layout tables (R81 to R83, R89) -/

theorem isOneOf_iff (x y z b : Byte) : isOneOf x y z b = true ↔ b = x ∨ b = y ∨ b = z := by
  simp [isOneOf, or_assoc]

theorem encodeS450_eq_none_iff (p : Params) (ft d : Byte) (data : List Byte) :
    encodeS450 p ft d data = none ↔
      isOneOf p.s450.ftAck p.s450.ftSystem p.s450.ftCmd ft = false ∨ 31 < d.toNat ∨ 255 < data.length := by
  rw [← Bool.not_eq_true, isOneOf_iff]
  simp [encodeS450, or_iff_not_imp_left]

theorem encodeOpos_eq_none_iff (p : Params) (d : Byte) (data : List Byte) :
    encodeOpos p d data = none ↔ 31 < d.toNat ∨ 255 < data.length := by
  simp [encodeOpos, or_iff_not_imp_left]

theorem layoutUsb_eq_encodeUsb (data : List Byte) : layoutUsb data = encodeUsb data := by
  unfold layoutUsb encodeUsb
  rw [← ite_not]
  simp

theorem layoutS450_eq_encodeS450 (p : Params) (ft d : Byte) (data : List Byte) :
    layoutS450 p ft d data = encodeS450 p ft d data := by
  by_cases hrange : isOneOf p.s450.ftAck p.s450.ftSystem p.s450.ftCmd ft = true ∧ d.toNat ≤ 31 ∧ data.length ≤ 255
  · obtain ⟨hft, hd, hlen⟩ := hrange
    rw [encodeS450_eq_some p ft d data ((isOneOf_iff _ _ _ _).mp hft) hd hlen]
    simp [layoutS450, hft, hd, hlen, frameAround, headerBytes, checksum, seed, startOf, stopOf, add_assoc]
  · have hnone : encodeS450 p ft d data = none := by
      rw [encodeS450_eq_none_iff]
      simpa only [not_and_or, Nat.not_le, Bool.not_eq_true] using hrange
    rw [hnone, layoutS450, if_neg]
    simpa [and_assoc] using hrange

theorem layoutOpos_eq_encodeOpos (p : Params) (d : Byte) (data : List Byte) :
    layoutOpos p d data = encodeOpos p d data := by
  by_cases hrange : d.toNat ≤ 31 ∧ data.length ≤ 255
  · obtain ⟨hd, hlen⟩ := hrange
    rw [encodeOpos_eq_some p 0 d data hd hlen]
    simp [layoutOpos, hd, hlen, frameAround, headerBytes, checksum, seed, startOf, stopOf, add_assoc]
  · have hnone : encodeOpos p d data = none := by
      rw [encodeOpos_eq_none_iff]
      omega
    rw [hnone, layoutOpos, if_neg]
    simpa using hrange

/-- R89: the `S450` ACK is the layout of a frame of type `FT_ACK` with no payload. -/
theorem layoutAckS450_eq_encodeS450 (p : Params) (d : Byte) :
    layoutAckS450 p d = encodeS450 p p.s450.ftAck d [] := by
  rw [← layoutS450_eq_encodeS450]
  simp [layoutAckS450, layoutS450, isOneOf]

/-- R89: the OPOS ACK is the layout of a frame with no payload. -/
theorem layoutAckOpos_eq_encodeOpos (p : Params) (d : Byte) : layoutAckOpos p d = encodeOpos p d [] := by
  rw [← layoutOpos_eq_encodeOpos]
  simp [layoutAckOpos, layoutOpos]

/-- Settles O36: the layout rows report the layouts, which are the encoders' frames byte by byte. -/
theorem layoutsAgreeWithTheEncoders : Obligations.LayoutsAgreeWithTheEncoders := by
  intro s ft d data
  refine ⟨encodeUsb data, encodeS450 s.params ft d data, encodeOpos s.params d data,
    encodeS450 s.params s.params.s450.ftAck d [], encodeOpos s.params d [], rfl, ?_, rfl, ?_, rfl, ?_, ?_, ?_,
    rfl, rfl, rfl, rfl, rfl, encodeUsb_eq_none_iff data, encodeS450_eq_none_iff s.params ft d data,
    encodeOpos_eq_none_iff s.params d data⟩
  · rw [← layoutUsb_eq_encodeUsb]; rfl
  · rw [← layoutS450_eq_encodeS450]; rfl
  · rw [← layoutOpos_eq_encodeOpos]; rfl
  · rw [← layoutAckS450_eq_encodeS450]; rfl
  · rw [← layoutAckOpos_eq_encodeOpos]; rfl

/-! ### The decoders' answers (R127 to R130) -/

/-- A list of more than `n` elements is `n` of them, those between, and the last. -/
theorem exists_append_append_singleton (body : List Byte) (n : Nat) (h : n + 1 ≤ body.length) :
    ∃ hdr payload c, body = hdr ++ payload ++ [c] ∧ hdr.length = n := by
  have hne : body.drop n ≠ [] := by
    simp only [ne_eq, List.drop_eq_nil_iff]
    omega
  refine ⟨body.take n, (body.drop n).dropLast, (body.drop n).getLast hne, ?_, ?_⟩
  · rw [List.append_assoc, List.dropLast_append_getLast, List.take_append_drop]
  · rw [List.length_take]
    omega

/-- The sum test determines the last byte. -/
theorem eq_checksum_of_sum (p : Params) (v : Serial) (hp : List Byte) (c : Byte)
    (h : seed p v + byteSum (hp ++ [c]) = 0xFF) : c = checksum p v hp := by
  rw [checksum, ← h, byteSum_append, byteSum_cons, byteSum_nil]
  ring

/-- What an accepted body is: header, payload and the checksum of both. -/
theorem parseBody_ok_layout (p : Params) (v : Serial) (body : List Byte) (f : Frame)
    (h : parseBody p v body = .ok f) :
    ∃ ft d, body = headerBytes v ft d f.payload.length ++ f.payload ++
        [checksum p v (headerBytes v ft d f.payload.length ++ f.payload)] ∧
      f = frameOf v ft d f.payload := by
  obtain ⟨hlen, hsum, hfield, rfl⟩ := parseBody_ok p v body f h
  obtain ⟨hdr, payload, c, rfl, hhdr⟩ := exists_append_append_singleton body (headerLength v) hlen
  have hmid : ((hdr ++ payload ++ [c]).drop (headerLength v)).dropLast = payload := by
    rw [List.append_assoc, List.drop_left' hhdr, List.dropLast_concat]
  rw [hmid] at hfield ⊢
  obtain rfl := eq_checksum_of_sum p v _ c hsum
  have hfield_eq (l : Byte) (hl : l.toNat = payload.length) : l = BitVec.ofNat 8 payload.length := by
    rw [← hl, BitVec.ofNat_toNat, BitVec.setWidth_eq]
  cases v with
  | s450 =>
    obtain ⟨ft, d, l, rfl⟩ := List.length_eq_three.mp hhdr
    obtain rfl := hfield_eq l hfield
    exact ⟨ft, d, rfl, rfl⟩
  | opos =>
    obtain ⟨d, l, rfl⟩ := List.length_eq_two.mp hhdr
    obtain rfl := hfield_eq l hfield
    exact ⟨0, d, rfl, rfl⟩

/-- Settles O37: every operation reports its function's value; `PARSE` is decided by length, sum and `LEN` in that
order, and whole-frame decode by the delimiters and then `PARSE` of what was escaped. -/
theorem decodersAnswerWithTheFieldsOfTheBody : Obligations.DecodersAnswerWithTheFieldsOfTheBody := by
  intro s v raw
  dsimp only
  have hgood : sumGood s.params v raw = true ↔
      ((seed s.params v).toNat + (raw.map BitVec.toNat).sum) % 256 = 255 := by
    rw [sumGood_iff, add_byteSum_eq_ff_iff]
  refine ⟨rfl, rfl, rfl, rfl, fun hshort => if_pos hshort, decodeUsb_of_long raw, decodeUsb_of_length raw, rfl, rfl,
    parseBody_of_short s.params v raw, fun hlen hsum => ?csum, fun hlen hsum hl => ?len, fun hlen hsum hl => ?accepted,
    fun f hf => ?fields, decodeSerial_of_not_delimited s.params v raw, ?escaped⟩
  case csum => exact parseBody_of_badSum s.params v raw hlen (Bool.eq_false_iff.mpr (mt hgood.mp hsum))
  case len => rw [parseBody_of_goodSum s.params v raw hlen (hgood.mpr hsum), if_neg hl]
  case accepted => exact ⟨_, by rw [parseBody_of_goodSum s.params v raw hlen (hgood.mpr hsum), if_pos hl]⟩
  case fields =>
    have hpayload := parseBody_payload_length s.params v raw f hf
    obtain ⟨ft, d, hraw, hframe⟩ := parseBody_ok_layout s.params v raw f hf
    refine ⟨_, _, hraw, ?_, ?_, hpayload, rfl⟩
    · rintro rfl
      exact ⟨ft, d, by rw [hframe]; rfl, by rw [hframe]; rfl, rfl⟩
    · rintro rfl
      exact ⟨d, by rw [hframe]; rfl, by rw [hframe]; rfl, rfl⟩
  case escaped =>
    rintro body rfl
    exact decodeSerial_escaped s.params v body

end Sys2Proof.Proofs
end

section
/-! The decoder of arrivals (30_encoding.md section 3, 41_link_assembler.md section 2): the row that a byte selects, and
the obligations about it. -/

namespace Sys2Proof.Proofs

open Sys2Proof.Machine Host.Outcome

/-- R162: in an open session outside download mode a byte selects the transition of its link state and class. -/
theorem decodeByte_of_assembling (c : Context) (v : Serial) (b : Byte) (hv : c.variant = v.toVariant)
    (ho : c.isOpen = true) (hd : c.dlMode = false) :
    decodeByte c b = transitionRow v c.ls (classOf c.params v b) b := by
  cases v <;> simp [decodeByte, hv, ho, hd, Serial.toVariant]

/-- The same in a context that admits the rows of `v` and `l`, with the class of the byte known. -/
theorem decode_byte_of_class (c : Context) (v : Serial) (l : LinkState) {k : ByteClass} {b : Byte}
    (hc : (c.variant == v.toVariant && c.isOpen && !c.dlMode && c.ls == l) = true) (hk : classOf c.params v b = k) :
    decode c (.byte b) = some (transitionRow v l k b) := by
  simp only [Bool.and_eq_true, beq_iff_eq, Bool.not_eq_true'] at hc
  obtain ⟨⟨⟨hv, ho⟩, hd⟩, rfl⟩ := hc
  rw [decode, decodeByte_of_assembling c v b hv ho hd, hk]

/-- R153: three of the four classes are other than a start delimiter. -/
theorem transitionRow_idle_other (v : Serial) (k : ByteClass) (b : Byte) (hk : k ≠ .start) :
    transitionRow v .idle k b = rowIdleOther b v := by
  cases k with
  | start => exact absurd rfl hk
  | stop | stuff | ord => cases v <;> rfl

theorem decode_byte_idle_other (c : Context) (v : Serial) {b : Byte}
    (hc : (c.variant == v.toVariant && c.isOpen && !c.dlMode && c.ls == .idle) = true) (hb : b ≠ startOf c.params v) :
    decode c (.byte b) = some (rowIdleOther b v) := by
  rw [decode_byte_of_class c v _ hc rfl, transitionRow_idle_other v _ b (mt (classOf_eq_start c.params v b).mp hb)]

/-- R158: after a stuff sentinel the class of the byte does not matter. -/
theorem decode_byte_escapeSeen (c : Context) (v : Serial) {b : Byte}
    (hc : (c.variant == v.toVariant && c.isOpen && !c.dlMode && c.ls == .escapeSeen) = true) :
    decode c (.byte b) = some (rowEscapeSeenAny b v) := by
  rw [decode_byte_of_class c v _ hc rfl]
  cases v <;> rfl

/-- R150: a byte of the rows that are RXB's own. -/
theorem decode_byte_own {c : Context} {b : Byte} (hc : c.admits (.rxb b) = true) :
    decode c (.byte b) = some (.rxb b) := by
  simp only [Context.admits, Bool.or_eq_true, Bool.and_eq_true, beq_iff_eq, Bool.not_eq_true'] at hc
  obtain (hv | ho) | ⟨hd, hv⟩ := hc
  · simp [decode, decodeByte, hv]
  · cases hv : c.variant <;> simp [decode, decodeByte, hv, ho]
  · simp [decode, decodeByte, hd, hv]

/-- R151: a byte of an open OPOS session in download mode. -/
theorem decode_byte_capturing {c : Context} {b : Byte} (hc : c.admits (.rxbDl b) = true) :
    decode c (.byte b) = some (.rxbDl b) := by
  simp only [Context.admits, Bool.and_eq_true, beq_iff_eq] at hc
  obtain ⟨⟨hv, ho⟩, hd⟩ := hc
  simp [decode, decodeByte, hv, ho, hd]

/-- The encoder's last arm: an operation issued by name is read back from its name, and no other has an arrival. -/
theorem decode_encode_byName {c : Context} {i : Instr} {a : Arrival}
    (ha : (if i.isByName then some (Arrival.named i) else none) = some a) : decode c a = some i := by
  obtain ⟨hname, hnamed⟩ := Option.ite_none_right_eq_some.mp ha
  cases hnamed
  exact if_pos hname

/-- Settles O45: a row that the line selects is selected by the byte that encodes it, whose class the row's operands
give; every other operation that has an arrival has its name. -/
theorem decodeOfEncodedOperationIsTheOperation : Obligations.DecodeOfEncodedOperationIsTheOperation := by
  intro c i a hwf hadm ha
  cases i
  case rxb b =>
    cases ha
    exact decode_byte_own hadm
  case rxbDl b =>
    cases ha
    exact decode_byte_capturing hadm
  case rxt xfer =>
    cases ha
    rfl
  case cherr =>
    cases ha
    rfl
  case rxbIdleStartS450 =>
    cases ha
    exact decode_byte_of_class c .s450 .idle hadm (classOf_startOf c.params .s450)
  case rxbIdleStartOpos =>
    cases ha
    exact decode_byte_of_class c .opos .idle hadm (classOf_startOf c.params .opos)
  case rxbIdleOtherS450 b =>
    cases ha
    exact decode_byte_idle_other c .s450 hadm (bne_iff_ne.mp hwf)
  case rxbIdleOtherOpos b =>
    cases ha
    exact decode_byte_idle_other c .opos hadm (bne_iff_ne.mp hwf)
  case rxbReceivingStartS450 =>
    cases ha
    exact decode_byte_of_class c .s450 .receiving hadm (classOf_startOf c.params .s450)
  case rxbReceivingStartOpos =>
    cases ha
    exact decode_byte_of_class c .opos .receiving hadm (classOf_startOf c.params .opos)
  case rxbReceivingStuffS450 =>
    cases ha
    exact decode_byte_of_class c .s450 .receiving hadm (classOf_stuffOf c.params .s450)
  case rxbReceivingStuffOpos =>
    cases ha
    exact decode_byte_of_class c .opos .receiving hadm (classOf_stuffOf c.params .opos)
  case rxbReceivingEndS450 =>
    cases ha
    exact decode_byte_of_class c .s450 .receiving hadm (classOf_stopOf c.params .s450)
  case rxbReceivingEndOpos =>
    cases ha
    exact decode_byte_of_class c .opos .receiving hadm (classOf_stopOf c.params .opos)
  case rxbReceivingOrdS450 b =>
    cases ha
    have hord : isSentinel c.params .s450 b = false := (Bool.not_eq_true' _).mp hwf
    exact decode_byte_of_class c .s450 .receiving hadm ((classOf_eq_ord c.params .s450 b).mpr hord)
  case rxbReceivingOrdOpos b =>
    cases ha
    have hord : isSentinel c.params .opos b = false := (Bool.not_eq_true' _).mp hwf
    exact decode_byte_of_class c .opos .receiving hadm ((classOf_eq_ord c.params .opos b).mpr hord)
  case rxbEscapeSeenAnyS450 b =>
    cases ha
    exact decode_byte_escapeSeen c .s450 hadm
  case rxbEscapeSeenAnyOpos b =>
    cases ha
    exact decode_byte_escapeSeen c .opos hadm
  all_goals exact decode_encode_byName ha

/-- Settles O46: fixed bytes, evaluated; the table's words meet no open parameter but the OPOS delimiters, which
`Config.tableParams` fixes. -/
theorem byteWordsDecodeToTheirRows : Obligations.ByteWordsDecodeToTheirRows :=
  ⟨rfl, rfl, rfl, rfl, rfl, rfl, rfl, rfl, rfl, rfl, rfl⟩

end Sys2Proof.Proofs
end

section
/-! The invariant of a session (10_state.md sections 2, 4 and 5): what each kind of step does to it, and the obligations
about it. -/

namespace Sys2Proof.Proofs

open Sys2Proof.Machine Host.Outcome

/-! ### The invariant by the state of the session -/

/-- A closed session leaves only the response to bound. -/
theorem inv_iff_of_closed (s : State) (hclosed : s.isOpen = false) : s.Inv ↔ s.rspLen ≤ 256 := by
  simp [State.Inv, State.ResponseFits, hclosed]

/-- What the invariant says of an open serial session outside download mode. -/
theorem inv_iff_of_serial (s : State) (v : Serial) (hv : s.variant = v.toVariant) (ho : s.isOpen = true)
    (hd : s.dlMode = false) :
    s.Inv ↔ s.blen ≤ bodyMax v ∧ (s.ls ≠ .idle → s.csum = seed s.params v + byteSum s.body) ∧ s.rspLen ≤ 255 := by
  cases v <;>
    simp [State.Inv, State.ResponseFits, hv, ho, hd, Serial.toVariant, bodyRoom, seedFor, payloadMax] <;> omega

/-! ### The updates that keep it -/

theorem inv_setOpen_false (s : State) (h : s.Inv) : (s.setOpen false).Inv := by
  obtain ⟨-, -, -, -, hrsp, -⟩ := h
  exact (inv_iff_of_closed _ rfl).mpr hrsp

theorem inv_setAckSeen_false (s : State) (h : s.Inv) : (s.setAckSeen false).Inv := by
  obtain ⟨hbody, hsum, hdl, husb, hrsp⟩ := h
  refine ⟨hbody, hsum, hdl, fun ho hv => ?_, hrsp⟩
  obtain ⟨hls, hcsum, -⟩ := husb ho hv
  exact ⟨hls, hcsum, rfl⟩

theorem inv_storeResponse (s : State) (payload : List Byte) (h : s.Inv)
    (hlen : payload.length ≤ payloadMax s.variant) :
    (s.storeResponse payload).Inv := by
  obtain ⟨hbody, hsum, hdl, husb, -⟩ := h
  have hmax : payloadMax s.variant ≤ 256 := by cases s.variant <;> decide
  exact ⟨hbody, hsum, hdl, husb, hlen.trans hmax, fun _ => hlen⟩

/-- R212: a fresh session is idle with everything empty. -/
theorem inv_openSession (s : State) : s.openSession.Inv :=
  ⟨fun _ => Nat.zero_le _, fun _ hls => absurd rfl hls, fun _ hd => (nomatch hd), fun _ _ => ⟨rfl, rfl, rfl⟩,
    Nat.zero_le _, fun _ => Nat.zero_le _⟩

theorem inv_resetRegisters (s : State) : s.resetRegisters.Inv :=
  (inv_iff_of_closed _ rfl).mpr (Nat.zero_le _)

/-- R216: DLMODE finds the variant that download mode needs. -/
theorem inv_setDlMode (s : State) (e : Bool) (hv : s.variant = .opos) (h : s.Inv) : (s.setDlMode e).Inv := by
  obtain ⟨hbody, hsum, -, husb, hrsp⟩ := h
  exact ⟨hbody, hsum, fun _ _ => hv, husb, hrsp⟩

/-- R211: CFG finds the session closed. -/
theorem inv_setConfig (s : State) (v : Variant) (a : BitVec 5) (w : BitVec 256) (hclosed : s.isOpen = false)
    (h : s.Inv) : (s.setConfig v a w).Inv :=
  (inv_iff_of_closed (s.setConfig v a w) hclosed).mpr ((inv_iff_of_closed s hclosed).mp h)

/-! ### DELIVER and DISPATCH -/

theorem inv_deliver {f : Frame} {s t : State} (h : s.Inv) (hlen : f.payload.length ≤ payloadMax s.variant)
    (ht : deliver f s = next t) : t.Inv := by
  rw [deliver_eq] at ht
  split at ht <;> cases ht
  · exact h
  · exact inv_storeResponse s f.payload h hlen

/-- In a serial variant an ACK may be seen: the bound on the USB assembler is of another variant. -/
theorem inv_setAckSeen_of_serial (s : State) (b : Bool) {v : Serial} (hv : s.variant = v.toVariant) (h : s.Inv) :
    (s.setAckSeen b).Inv := by
  obtain ⟨hbody, hsum, hdl, -, hrsp⟩ := h
  refine ⟨hbody, hsum, hdl, fun _ husb => ?_, hrsp⟩
  cases v <;> cases hv.symm.trans husb

theorem inv_dispatchSerial {v : Serial} {f : Frame} {s t : State} (hv : s.variant = v.toVariant) (h : s.Inv)
    (hlen : f.payload.length ≤ 255) (ht : dispatchSerial v f s = next t) : t.Inv := by
  obtain ⟨-, hdrop⟩ | ⟨-, -, hack⟩ | ⟨-, -, hdeliver⟩ := dispatchSerial_cases v f s
  · cases hdrop.symm.trans ht
    exact h
  · cases hack.symm.trans ht
    exact inv_setAckSeen_of_serial s true hv h
  · have hmax : payloadMax s.variant = 255 := by
      rw [hv]
      cases v <;> rfl
    exact inv_deliver (s := s.emitTx _) h (hlen.trans hmax.ge) (hdeliver.symm.trans ht)

/-! ### The transitions of the assembler (R152 to R159) -/

section Transitions

variable {v : Serial} {s t : State} (hv : s.variant = v.toVariant) (ho : s.isOpen = true) (hd : s.dlMode = false)
  (hinv : s.Inv)

include hv ho hd hinv

/-- Back to `IDLE`, where the sum says nothing. -/
theorem inv_setLs_idle : (s.setLs .idle).Inv := by
  obtain ⟨hbody, -, hrsp⟩ := (inv_iff_of_serial s v hv ho hd).mp hinv
  exact (inv_iff_of_serial (s.setLs .idle) v hv ho hd).mpr ⟨hbody, fun hls => absurd rfl hls, hrsp⟩

/-- R152, R154: an empty body and the seed. -/
theorem inv_startBody : (s.startBody v).Inv := by
  obtain ⟨-, -, hrsp⟩ := (inv_iff_of_serial s v hv ho hd).mp hinv
  exact (inv_iff_of_serial (s.startBody v) v hv ho hd).mpr ⟨Nat.zero_le _, fun _ => by simp, hrsp⟩

/-- R159: a byte is stored only while there is room, and summed as it is stored. -/
theorem inv_accumulate {x : Byte} {l : LinkState} (hls : s.ls ≠ .idle) (ht : accumulate v x l s = next t) : t.Inv := by
  rw [accumulate_eq] at ht
  split at ht <;> cases ht
  · exact inv_setLs_idle (s := s) hv ho hd hinv
  · next hroom =>
    obtain ⟨hbody, hsum, hrsp⟩ := (inv_iff_of_serial s v hv ho hd).mp hinv
    refine (inv_iff_of_serial ((s.pushByte x).setLs l) v hv ho hd).mpr ⟨?_, fun _ => ?_, hrsp⟩
    · have hlt : s.body.length < bodyMax v := lt_of_le_of_ne hbody hroom
      simpa [State.blen] using hlt
    · simp [hsum hls, BitVec.add_assoc]

theorem inv_endFrame (ht : endFrame v s = next t) : t.Inv := by
  have hidle := inv_setLs_idle hv ho hd hinv
  obtain ⟨e, -, hdrop⟩ | ⟨f, hf, hdispatch⟩ := endFrame_cases v s
  · cases hdrop.symm.trans ht
    exact hidle
  · exact inv_dispatchSerial (s := s.setLs .idle) hv hidle (parseBody_payload_length _ v _ f hf)
      (hdispatch.symm.trans ht)

theorem inv_transition {b : Byte} (ht : transition v b s = next t) : t.Inv := by
  have hstart := inv_startBody hv ho hd hinv
  unfold transition at ht
  cases hls : s.ls <;> cases hk : classOf s.params v b <;> simp only [hls, hk] at ht
  case receiving.start =>
    rw [restartFrame_eq] at ht
    cases ht
    exact hstart
  case receiving.stop => exact inv_endFrame hv ho hd hinv ht
  case receiving.ord => exact inv_accumulate hv ho hd hinv (by simp [hls]) ht
  case receiving.stuff =>
    obtain ⟨hbody, hsum, hrsp⟩ := (inv_iff_of_serial s v hv ho hd).mp hinv
    cases ht
    exact (inv_iff_of_serial (s.setLs .escapeSeen) v hv ho hd).mpr ⟨hbody, fun _ => hsum (by simp [hls]), hrsp⟩
  case idle.start => cases ht; exact hstart
  case idle.stop | idle.stuff | idle.ord => cases ht; exact hinv
  all_goals exact inv_accumulate hv ho hd hinv (by simp [hls]) ht

end Transitions

/-! ### The operations of the line -/

theorem decodeUsb_ok_payload_length (raw : List Byte) (f : Frame) (h : decodeUsb raw = .ok f) :
    f.payload.length ≤ 256 := by
  unfold decodeUsb at h
  split at h
  · cases h
  split at h
  · cases h
  · cases h
    rw [List.length_drop]
    omega

theorem inv_exec_rxb {b : Byte} {s t : State} (h : s.Inv) (ht : exec (.rxb b) s = next t) : t.Inv := by
  simp only [exec, execRxb] at ht
  cases hv : s.variant.serial? with
  | none => simp [hv] at ht
  | some v =>
    simp only [hv] at ht
    split at ht
    · cases ht
      exact h
    · next ho =>
      split at ht
      · cases ht
        exact h
      · next hd =>
        exact inv_transition ((serial?_eq_some _ v).mp hv) (by simpa using ho) (by simpa using hd) h ht

theorem inv_exec_rxt {xs : List Byte} {s t : State} (h : s.Inv) (ht : exec (.rxt xs) s = next t) : t.Inv := by
  simp only [exec, execRxt] at ht
  split at ht
  · cases ht
  next husb =>
  split at ht
  · cases ht
    exact h
  split at ht
  · cases ht
    exact inv_setOpen_false s h
  split at ht
  · cases ht
    exact h
  next f hf =>
  have hroom : payloadMax s.variant = 256 := by
    rw [bne_iff_ne, not_not] at husb
    rw [husb]
    rfl
  exact inv_deliver h ((decodeUsb_ok_payload_length xs f hf).trans hroom.ge) ht

theorem inv_exec_cherr {s t : State} (h : s.Inv) (ht : exec .cherr s = next t) : t.Inv := by
  rw [exec, execCherr_eq] at ht
  cases ht
  exact inv_setOpen_false s h

/-! ### The operations issued by name -/

theorem inv_exec_named {i : Instr} {s t : State} (hn : i.isByName = true) (h : s.Inv) (ht : exec i s = next t) :
    t.Inv := by
  rcases exec_named_cases i s t hn ht with
    ⟨-, rfl⟩ | ⟨hclosed, c, a, w, v, a', w', -, rfl⟩ | ⟨-, -, rfl⟩ | ⟨-, rfl⟩ | ⟨e, -, rfl⟩ | ⟨e, -, hv, -, rfl⟩ |
    ⟨w, r, rfl, -⟩ | ⟨w, r, -, rfl⟩ | ⟨w, -, -, rfl⟩ | ⟨-, -, r, rfl⟩ | ⟨r, rfl⟩ | ⟨-, rfl⟩ | ⟨r, rfl⟩
  · exact inv_resetRegisters s
  · exact inv_setConfig s v a' w' hclosed h
  · exact inv_openSession s
  · exact inv_setOpen_false s h
  · exact h
  · exact inv_setDlMode s e hv h
  · exact inv_setAckSeen_false s h
  · exact inv_setOpen_false (s.setAckSeen false) (inv_setAckSeen_false s h)
  · exact inv_setAckSeen_false s h
  all_goals exact h

/-! ### Steps -/

/-- A step by the agent that issues the arrival (R9): the block waits, no agent issues the name, or RXB (of which every
byte row is a part, `exec_decodeByte`), RXT, CHERR or a named operation runs. -/
theorem step_by_agent (s : State) :
    step s = next s ∨ step s = refused .notIssued ∨ ∃ rest,
      (∃ b, step s = exec (.rxb b) (s.setArrivals rest)) ∨ (∃ xs, step s = exec (.rxt xs) (s.setArrivals rest)) ∨
      step s = exec .cherr (s.setArrivals rest) ∨
      ∃ i, i.isByName = true ∧ step s = exec i (s.setArrivals rest) := by
  obtain ⟨-, hwait⟩ | ⟨a, rest, i, -, hdec, hrun⟩ | ⟨a, rest, -, -, hrefused⟩ := step_cases s
  · exact .inl hwait
  · refine .inr (.inr ⟨rest, ?_⟩)
    cases a with
    | byte b =>
      cases hdec
      rw [exec_decodeByte s (s.setArrivals rest) b rfl] at hrun
      exact .inl ⟨b, hrun⟩
    | transfer xs => cases hdec; exact .inr (.inl ⟨xs, hrun⟩)
    | failure => cases hdec; exact .inr (.inr (.inl hrun))
    | named j =>
      obtain ⟨hname, hj⟩ := Option.ite_none_right_eq_some.mp hdec
      cases hj
      exact .inr (.inr (.inr ⟨_, hname, hrun⟩))
  · exact .inr (.inl hrefused)

/-! ### The obligations -/

/-- Settles O54: the state after reset is closed and holds no response. -/
theorem resetStateMeetsTheInvariant : Obligations.ResetStateMeetsTheInvariant :=
  (inv_iff_of_closed _ rfl).mpr (Nat.zero_le _)

/-- Settles O55, by the agent that issues the arrival. -/
theorem everyStepKeepsTheInvariant : Obligations.EveryStepKeepsTheInvariant := by
  intro s t h ht
  obtain hwait | hrefused | ⟨rest, ⟨b, hrun⟩ | ⟨xs, hrun⟩ | hrun | ⟨i, hname, hrun⟩⟩ := step_by_agent s
  · cases hwait.symm.trans ht
    exact h
  · cases hrefused.symm.trans ht
  all_goals have hstart : (s.setArrivals rest).Inv := h
  · exact inv_exec_rxb hstart (hrun.symm.trans ht)
  · exact inv_exec_rxt hstart (hrun.symm.trans ht)
  · exact inv_exec_cherr hstart (hrun.symm.trans ht)
  · exact inv_exec_named hname hstart (hrun.symm.trans ht)

end Sys2Proof.Proofs
end

section
/-! The line (41_link_assembler.md): the rows that a received byte runs, where the table selects them, what a transfer
does, and the obligations about them. -/

namespace Sys2Proof.Proofs

open Sys2Proof.Machine Host.Outcome

theorem ls_of_assemblingIn {s : State} {v : Serial} {l : LinkState} (hs : s.AssemblingIn v l) : s.ls = l := by
  obtain ⟨-, -, -, hls⟩ := hs
  exact hls

/-! ### The remaining selected rows, one equation for both serial variants (R162) -/

theorem exec_rowIdleOther (v : Serial) (s : State) (b : Byte) (hs : s.AssemblingIn v .idle)
    (hb : b ≠ startOf s.params v) : exec (rowIdleOther b v) s = finish s := by
  have hclass : classOf s.params v b ≠ .start := mt (classOf_eq_start s.params v b).mp hb
  have hsel : (s.assembling v .idle && classOf s.params v b != .start) = true := by
    rw [(assembling_iff s v .idle).mpr hs, Bool.true_and, bne_iff_ne]
    exact hclass
  cases v with
  | s450 => exact if_pos hsel
  | opos => exact if_pos hsel

theorem exec_rowReceivingOrd (v : Serial) (s : State) (b : Byte) (hs : s.AssemblingIn v .receiving)
    (hb : isSentinel s.params v b = false) : exec (rowReceivingOrd b v) s = ordinaryByte v b s := by
  have hclass : classOf s.params v b = .ord := (classOf_eq_ord s.params v b).mpr hb
  have hsel : (s.assembling v .receiving && classOf s.params v b == .ord) = true := by
    rw [(assembling_iff s v .receiving).mpr hs, Bool.true_and, beq_iff_eq]
    exact hclass
  cases v with
  | s450 => exact if_pos hsel
  | opos => exact if_pos hsel

theorem exec_rowEscapeSeenAny (v : Serial) (s : State) (b : Byte) (hs : s.AssemblingIn v .escapeSeen) :
    exec (rowEscapeSeenAny b v) s = escapedByte v b s := by
  have hsel := (assembling_iff s v .escapeSeen).mpr hs
  cases v with
  | s450 => exact if_pos hsel
  | opos => exact if_pos hsel

theorem exec_rxbDl (s : State) (b : Byte) (hv : s.variant = .opos) (ho : s.isOpen = true) (hd : s.dlMode = true) :
    exec (.rxbDl b) s = next ((s.captureRaw b).report .done .unit) :=
  if_pos (by simp [State.capturing, hv, ho, hd])

theorem exec_accum (v : Serial) (s : State) (x : Byte) (hv : s.variant = v.toVariant) :
    exec (.accum x) s = accumulate v x s.ls s := by
  simp [exec, execAccum, hv]

/-! ### RXB (R150) -/

theorem exec_rxb_of_usb (s : State) (b : Byte) (hv : s.variant = .usb) : exec (.rxb b) s = refused .noByteStream := by
  simp [exec, execRxb, hv, Variant.serial?]

theorem exec_rxb_capturing (s : State) (b : Byte) (hv : s.variant = .opos) (ho : s.isOpen = true)
    (hd : s.dlMode = true) : exec (.rxb b) s = next ((s.captureRaw b).report .done .unit) := by
  simp [exec, execRxb, hv, ho, hd, Variant.serial?, finish_eq]

/-- Where the table selects the transitions of `v` and `l`, the byte's class decides which. -/
theorem exec_rxb_assembling (s : State) (b : Byte) (v : Serial) (l : LinkState) (hs : s.AssemblingIn v l) :
    exec (.rxb b) s = transition v b s := by
  obtain ⟨hv, ho, hd, -⟩ := hs
  exact execRxb_transition b s v hv ho hd

theorem transition_idle_start (v : Serial) (s : State) (hls : s.ls = .idle) :
    transition v (startOf s.params v) s = beginFrame v s := by
  simp [transition, hls]

theorem transition_idle_other (v : Serial) (b : Byte) (s : State) (hls : s.ls = .idle) (hb : b ≠ startOf s.params v) :
    transition v b s = finish s := by
  have hclass : classOf s.params v b ≠ .start := mt (classOf_eq_start s.params v b).mp hb
  cases hk : classOf s.params v b with
  | start => exact absurd hk hclass
  | stop | stuff | ord => simp [transition, hls, hk]

theorem transition_receiving_start (v : Serial) (s : State) (hls : s.ls = .receiving) :
    transition v (startOf s.params v) s = restartFrame v s := by
  simp [transition, hls]

theorem transition_receiving_stuff (v : Serial) (s : State) (hls : s.ls = .receiving) :
    transition v (stuffOf s.params v) s = seeEscape s := by
  simp [transition, hls]

theorem transition_receiving_stop (v : Serial) (s : State) (hls : s.ls = .receiving) :
    transition v (stopOf s.params v) s = endFrame v s := by
  simp [transition, hls]

theorem transition_receiving_ord (v : Serial) (b : Byte) (s : State) (hls : s.ls = .receiving)
    (hb : isSentinel s.params v b = false) : transition v b s = ordinaryByte v b s := by
  simp [transition, hls, (classOf_eq_ord s.params v b).mpr hb]

theorem transition_escapeSeen (v : Serial) (b : Byte) (s : State) (hls : s.ls = .escapeSeen) :
    transition v b s = escapedByte v b s := by
  simp [transition, hls]

/-- Settles O16: in each context of the summary table RXB and the selected row end in the same shared step. -/
theorem receivedByteRunsTheRowOfTheSummaryTable : Obligations.ReceivedByteRunsTheRowOfTheSummaryTable := by
  intro s b _
  refine ⟨exec_rxb_of_usb s b, fun hserial hclosed => exec_rxb_of_closed b s hclosed hserial,
    fun hv ho hd => ?capture, fun v hs => ⟨fun hb => ?idleStart, fun hb => ?idleOther⟩,
    fun v hs => ⟨fun hb => ?start, fun hb => ?stuff, fun hb => ?stop, fun hb => ?ord⟩, fun v hs => ?escaped⟩
  case capture =>
    rw [exec_rxb_capturing s b hv ho hd, exec_rxbDl s b hv ho hd]
    exact ⟨rfl, rfl⟩
  all_goals
    have hls := ls_of_assemblingIn hs
    rw [exec_rxb_assembling s b v _ hs]
  case idleStart => rw [hb, transition_idle_start v s hls, exec_rowIdleStart v s hs]
  case idleOther => rw [transition_idle_other v b s hls hb, exec_rowIdleOther v s b hs hb]
  case start => rw [hb, transition_receiving_start v s hls, exec_rowReceivingStart v s hs]
  case stuff => rw [hb, transition_receiving_stuff v s hls, exec_rowReceivingStuff v s hs]
  case stop => rw [hb, transition_receiving_stop v s hls, exec_rowReceivingEnd v s hs]
  case ord => rw [transition_receiving_ord v b s hls hb, exec_rowReceivingOrd v s b hs hb]
  case escaped => rw [transition_escapeSeen v b s hls, exec_rowEscapeSeenAny v s b hs]

/-- Settles O18: the row discards the byte. -/
theorem idleIgnoresEveryOtherByte : Obligations.IdleIgnoresEveryOtherByte :=
  fun v s b hs hb => exec_rowIdleOther v s b hs hb

/-- Settles O23: the row is selected and captures. -/
theorem downloadModeCapturesEveryByteRaw : Obligations.DownloadModeCapturesEveryByteRaw :=
  fun s b hv ho hd => exec_rxbDl s b hv ho hd

/-! ### ACCUM (R157 to R159) -/

/-- R131: a sum of two bytes is the integer sum modulo 256. -/
theorem byte_add_eq_ofNat (a b : Byte) : a + b = BitVec.ofNat 8 (a.toNat + b.toNat) := by
  rw [BitVec.ofNat_add, BitVec.ofNat_toNat, BitVec.ofNat_toNat, BitVec.setWidth_eq, BitVec.setWidth_eq]

/-- Storing a byte, with the sum written as the integer sum modulo 256. -/
theorem accumulate_ofNat (v : Serial) (x : Byte) (l : LinkState) (s : State) :
    accumulate v x l s =
      if s.blen = bodyMax v then next { s with ls := .idle, label := .drop .overflow, result := .unit }
      else next { s with ls := l, body := s.body ++ [x], csum := BitVec.ofNat 8 (s.csum.toNat + x.toNat),
                         label := .done, result := .unit } := by
  rw [accumulate_eq, ← byte_add_eq_ofNat]
  rfl

/-- Settles O20: the three rows are `ACCUM` of the byte, of the byte un-escaped, and of the operand. -/
theorem dataByteIsAccumulatedOrOverflows : Obligations.DataByteIsAccumulatedOrOverflows := by
  intro v s b
  refine ⟨fun hs hb => ?ord, fun hs => ?escaped, fun hv => ?accum, rfl, rfl⟩
  case ord => rw [exec_rowReceivingOrd v s b hs hb, ordinaryByte, accumulate_ofNat]
  case escaped => rw [exec_rowEscapeSeenAny v s b hs, escapedByte, accumulate_ofNat, unescByte, byte_add_eq_ofNat b]
  case accum => rw [exec_accum v s b hv, accumulate_ofNat]

/-- Settles O22: outside `IDLE` the invariant makes `csum` the sum that the test computes. -/
theorem runningSumDecidesTheSumTest : Obligations.RunningSumDecidesTheSumTest := by
  rintro v s ⟨hv, ho, hd, hls⟩ hinv
  obtain ⟨-, hsum, -⟩ := (inv_iff_of_serial s v hv ho hd).mp hinv
  rw [sumGood_iff, hsum (by simp [hls])]

/-! ### RXT (R160) -/

theorem exec_rxt_of_serial (s : State) (xs : List Byte) (hv : s.variant ≠ .usb) :
    exec (.rxt xs) s = refused .noTransfers :=
  if_pos (bne_iff_ne.mpr hv)

theorem exec_rxt_nil (s : State) (hv : s.variant = .usb) (ho : s.isOpen = true) :
    exec (.rxt []) s = finish (s.setOpen false) := by
  simp [exec, execRxt, hv, ho]

theorem exec_rxt_of_err (s : State) (xs : List Byte) (e : DecodeError) (hv : s.variant = .usb) (ho : s.isOpen = true)
    (hne : xs ≠ []) (he : decodeUsb xs = .err e) : exec (.rxt xs) s = finishDrop (dropReason e) s := by
  simp [exec, execRxt, hv, ho, hne, he]

theorem exec_rxt_of_ok (s : State) (xs : List Byte) (f : Frame) (hv : s.variant = .usb) (ho : s.isOpen = true)
    (hne : xs ≠ []) (hf : decodeUsb xs = .ok f) : exec (.rxt xs) s = deliver f s := by
  simp [exec, execRxt, hv, ho, hne, hf]

theorem exec_dispatchUsb (s : State) (f : Frame) (hv : s.variant = .usb) (hf : f.fits .usb = true) :
    exec (.dispatchUsb f) s = deliver f s :=
  if_pos (by simp [hv, hf])

/-- `DELIVER` shows the payload as the response or as an event. -/
theorem deliver_shows_payload (f : Frame) (s : State) :
    ∃ t, deliver f s = next t ∧ (t.rspBuf = f.payload ∨ t.ev = s.ev ++ [.unsol f.payload]) := by
  rw [deliver_eq]
  split
  · exact ⟨_, rfl, .inr rfl⟩
  · exact ⟨_, rfl, .inl rfl⟩

/-- Settles O25: an empty transfer closes; of the others `DEC.USB` refuses the shortest and the too long and answers the
frame that is delivered for the rest. -/
theorem transferClosesDropsOrDelivers : Obligations.TransferClosesDropsOrDelivers := by
  intro s xs
  refine ⟨exec_rxt_of_serial s xs, fun hv hclosed => exec_rxt_of_closed xs s hclosed hv, fun hv ho => ?_⟩
  refine ⟨fun hlen => ?empty, fun hlen => ?short, fun hlen => ?long, fun hlo hhi => ?frame⟩
  case empty =>
    obtain rfl := List.length_eq_zero_iff.mp hlen
    exact exec_rxt_nil s hv ho
  all_goals have hne : xs ≠ [] := List.ne_nil_of_length_pos (by omega)
  case short => exact exec_rxt_of_err s xs .short hv ho hne (if_pos (by omega))
  case long => exact exec_rxt_of_err s xs .long hv ho hne (decodeUsb_of_long xs hlen)
  case frame =>
    rw [exec_rxt_of_ok s xs _ hv ho hne (decodeUsb_of_length xs hlo hhi),
      exec_dispatchUsb s _ hv (by simp [Frame.fits]; omega)]
    exact ⟨rfl, deliver_shows_payload _ s⟩

end Sys2Proof.Proofs
end

section
/-! Delivery (42_dispatcher.md section 1): the frames that are acknowledged, the two ways a frame is delivered, and the
obligations about them. -/

namespace Sys2Proof.Proofs

open Sys2Proof.Machine Host.Outcome

/-! ### The OPOS ACK (R182) -/

theorem exec_dispatchAckOpos (s : State) (f : Frame) (hv : s.variant = .opos) (hf : f.fits .opos = true)
    (hpass : passesFilter s f = true) (hack : isAck s .opos f = true) :
    exec (.dispatchAckOpos f) s = finish (s.setAckSeen true) :=
  if_pos (by simp [hv, hf, hpass, hack])

/-- Settles O29: such a frame passes the filter and is an ACK by its empty payload. -/
theorem oposEmptyFrameSetsAckSeenOnly : Obligations.OposEmptyFrameSetsAckSeenOnly := by
  intro s f hv hf hd hpayload
  have hpass : passesFilter s f = true := passesFilter_of_dest_addrByte s f hd
  have hack : isAck s .opos f = true := List.isEmpty_iff.mpr hpayload
  rw [exec_dispatchAckOpos s f hv hf hpass hack]
  exact ⟨rfl, dispatchSerial_of_isAck .opos f s hpass hack⟩

/-! ### DELIVER (R184, R185) -/

theorem deliver_of_watched (f : Frame) (s : State) (h : watched s f = true) :
    deliver f s = next ((s.emitEv (.unsol f.payload)).report .done .unit) :=
  if_pos h

theorem deliver_of_not_watched (f : Frame) (s : State) (h : watched s f = false) :
    deliver f s = next ((s.storeResponse f.payload).report .done .unit) :=
  if_neg (Bool.eq_false_iff.mp h)

theorem exec_deliverUnsol (s : State) (f : Frame) (hreach : reachesDeliver s f = true) (hw : watched s f = true) :
    exec (.deliverUnsol f) s = next ((s.emitEv (.unsol f.payload)).report .done .unit) :=
  if_pos (by simp [hreach, hw])

theorem exec_deliverRsp (s : State) (f : Frame) (hreach : reachesDeliver s f = true) (hw : watched s f = false) :
    exec (.deliverRsp f) s = next ((s.storeResponse f.payload).report .done .unit) :=
  if_pos (by simp [hreach, hw])

theorem fits_of_reachesDeliver (s : State) (f : Frame) (h : reachesDeliver s f = true) : f.fits s.variant = true := by
  rw [reachesDeliver, Bool.and_eq_true] at h
  exact h.1

/-- R186: the USB row is `DELIVER`. -/
theorem exec_dispatchUsb_of_reachesDeliver (s : State) (f : Frame) (hreach : reachesDeliver s f = true)
    (hv : s.variant = .usb) : exec (.dispatchUsb f) s = deliver f s :=
  exec_dispatchUsb s f hv (by simpa [hv] using fits_of_reachesDeliver s f hreach)

/-- The Watch List is asked for the command byte only where there is one. -/
theorem watched_eq_false (s : State) (f : Frame)
    (h : f.payload = [] ∨ ∃ c rest, f.payload = c :: rest ∧ s.watch.getLsbD c.toNat = false) : watched s f = false := by
  obtain hnil | ⟨c, rest, hcons, hbit⟩ := h
  · exact watched_nil s f hnil
  · rw [watched_cons s f c rest hcons, hbit]

/-- Settles O31: the bit of the command byte decides which of the two rows is selected, and the USB row's `DELIVER` the
same. -/
theorem deliveryRaisesAnEventOrStoresAResponse : Obligations.DeliveryRaisesAnEventOrStoresAResponse := by
  refine fun s f hreach => ⟨fun c rest hcons hbit => ?event, fun hquiet => ?response⟩
  case event =>
    have hw : watched s f = true := (watched_cons s f c rest hcons).trans hbit
    refine ⟨exec_deliverUnsol s f hreach hw, fun hv => ?_⟩
    rw [exec_dispatchUsb_of_reachesDeliver s f hreach hv]
    exact deliver_of_watched f s hw
  case response =>
    have hw : watched s f = false := watched_eq_false s f hquiet
    refine ⟨exec_deliverRsp s f hreach hw, fun hv => ?_⟩
    rw [exec_dispatchUsb_of_reachesDeliver s f hreach hv]
    exact deliver_of_not_watched f s hw

/-! ### The automatic acknowledgment (R183) -/

theorem layoutAckS450_eq_autoAckBytes (p : Params) (f : Frame) (d : Byte) (hd : f.dest = some d) (hle : d.toNat ≤ 31) :
    layoutAckS450 p d = some (autoAckBytes p .s450 f) := by
  have hframe := encodeS450_eq_some p p.s450.ftAck d [] (.inl rfl) hle (Nat.zero_le _)
  simp [layoutAckS450_eq_encodeS450, autoAckBytes, hd, hframe]

theorem layoutAckOpos_eq_autoAckBytes (p : Params) (f : Frame) (d : Byte) (hd : f.dest = some d) (hle : d.toNat ≤ 31)
    (hauto : p.opos.autoAck = true) : layoutAckOpos p d = some (autoAckBytes p .opos f) := by
  have hframe := encodeOpos_eq_some p 0 d [] hle (Nat.zero_le _)
  simp [layoutAckOpos_eq_encodeOpos, autoAckBytes, hd, hframe, hauto]

theorem autoAckBytes_opos_off (p : Params) (f : Frame) (hauto : p.opos.autoAck = false) :
    autoAckBytes p .opos f = [] := by
  cases hd : f.dest <;> simp [autoAckBytes, hd, hauto]

theorem dispatchSerial_of_not_isAck (v : Serial) (f : Frame) (s : State) (hpass : passesFilter s f = true)
    (hack : isAck s v f = false) : dispatchSerial v f s = deliver f (s.emitTx (autoAckBytes s.params v f)) := by
  obtain ⟨hdrop, -⟩ | ⟨-, hseen, -⟩ | ⟨-, -, hdeliver⟩ := dispatchSerial_cases v f s
  · simp [hpass] at hdrop
  · simp [hack] at hseen
  · exact hdeliver

/-- A frame that passes, is no ACK and is not watched becomes the response. -/
theorem dispatchSerial_of_response (v : Serial) (f : Frame) (s : State) (hpass : passesFilter s f = true)
    (hack : isAck s v f = false) (hw : watched s f = false) :
    dispatchSerial v f s =
      next (((s.emitTx (autoAckBytes s.params v f)).storeResponse f.payload).report .done .unit) :=
  (dispatchSerial_of_not_isAck v f s hpass hack).trans (deliver_of_not_watched f (s.emitTx _) hw)

theorem exec_dispatchAutoack (s : State) (v : Serial) (f : Frame) (hv : s.variant = v.toVariant)
    (hf : f.fits s.variant = true) (hpass : passesFilter s f = true) (hack : isAck s v f = false) :
    exec (.dispatchAutoack f) s = deliver f (s.emitTx (autoAckBytes s.params v f)) := by
  have hreach : reachesDeliver s f = true := by
    rw [hv] at hf
    simp [reachesDeliver, hv, hf, hpass, hack]
  simp [exec, execDispatchAutoack, hv, hreach, acknowledgeAndDeliver]

/-- Settles O30: the row is selected, its acknowledgment is the layout's, and `DELIVER` follows, as in `DISPATCH`. -/
theorem nonAckFrameIsAcknowledgedThenDelivered : Obligations.NonAckFrameIsAcknowledgedThenDelivered := by
  intro s v f d hv hf hd haddr htype hpayload
  obtain rfl : d = s.addrByte := haddr
  have hpass : passesFilter s f = true := passesFilter_of_dest_addrByte s f hd
  have hle : s.addrByte.toNat ≤ 31 := addrByte_le s
  have hack : isAck s v f = false := by
    cases v with
    | s450 => exact beq_eq_false_iff_ne.mpr (htype rfl)
    | opos => exact List.isEmpty_eq_false_iff.mpr (hpayload rfl)
  rw [exec_dispatchAutoack s v f hv hf hpass hack, dispatchSerial_of_not_isAck v f s hpass hack]
  have hdeliver := deliver_of_watched f (s.emitTx (autoAckBytes s.params v f))
  have hstore := deliver_of_not_watched f (s.emitTx (autoAckBytes s.params v f))
  refine ⟨autoAckBytes s.params v f, ?_, ?_, ?_, hdeliver, hstore, rfl⟩
  · rintro rfl
    exact layoutAckS450_eq_autoAckBytes s.params f _ hd hle
  · rintro rfl hauto
    exact layoutAckOpos_eq_autoAckBytes s.params f _ hd hle hauto
  · rintro rfl hauto
    exact autoAckBytes_opos_off s.params f hauto

end Sys2Proof.Proofs
end

section
/-! Session control and the host's side of an exchange (43_session_control.md, 42_dispatcher.md section 2): each
operation's next state, and the obligations about them. -/

namespace Sys2Proof.Proofs

open Sys2Proof.Machine Host.Outcome

/-! ### Reset, configuration and connection (R210 to R212) -/

/-- Settles O1: RESET is the reset of the registers. -/
theorem resetOperationSetsEveryRegister : Obligations.ResetOperationSetsEveryRegister := fun _ => rfl

/-- Settles O2: each register by evaluation; the Watch List is the zero register. -/
theorem resetStateIsClosedIdleAndUnconfigured : Obligations.ResetStateIsClosedIdleAndUnconfigured :=
  ⟨rfl, rfl, rfl, rfl, rfl, rfl, rfl, rfl, rfl, rfl, fun _ => BitVec.getLsbD_zero, rfl, rfl, rfl, rfl, rfl⟩

theorem exec_cfg_of_closed (s : State) (v : Variant) (addr : Nat) (w : List Byte) (hclosed : s.isOpen = false)
    (haddr : addr ≤ 31) :
    exec (.cfg v.code addr w) s = finish (s.setConfig v (BitVec.ofNat 5 addr) (watchOf w)) := by
  simp [exec, execCfg, hclosed, variantOfCode_code, Nat.not_lt.mpr haddr]

/-- Settles O3: the address fits the five bits of the register, and `watchOf` is the set. -/
theorem cfgReplacesTheWholeConfiguration : Obligations.CfgReplacesTheWholeConfiguration := by
  intro s v addr w hclosed haddr
  refine ⟨BitVec.ofNat 5 addr, watchOf w, exec_cfg_of_closed s v addr w hclosed haddr, ?_, watchOf_getLsbD w⟩
  rw [BitVec.toNat_ofNat]
  omega

/-- Settles O4: the three refusals in the rule's order; where none applies CFG answers a next state. -/
theorem cfgIsRefusedExactlyWhenFrozenOrOutOfRange : Obligations.CfgIsRefusedExactlyWhenFrozenOrOutOfRange := by
  intro s code addr w
  cases hopen : s.isOpen with
  | true => simp [exec, execCfg, hopen]
  | false =>
    cases hcode : variantOfCode code with
    | none =>
      have hreserved : code = 3 := (variantOfCode_none code).mp hcode
      simpa [exec, execCfg, hopen, hcode] using Or.inl hreserved
    | some v =>
      have hvalid : code ≠ 3 := fun h => by simp [(variantOfCode_none code).mpr h] at hcode
      by_cases haddr : addr > 31
      · simp [exec, execCfg, hopen, hcode, haddr]
      · simpa [exec, execCfg, hopen, hcode, haddr, finish_eq] using hvalid

/-- R212: CONNECT needs a closed session and a channel that opens. -/
theorem exec_connect (s : State) (ok : Bool) :
    exec (.connect ok) s =
      if s.isOpen = false ∧ ok = true then next (s.openSession.report .done (.bool true))
      else next (s.report .done (.bool false)) := by
  cases hopen : s.isOpen <;> cases ok <;> simp [exec, execConnect, hopen, finishWith_eq]

/-- Settles O5: the session it opens is `State.openSession`. -/
theorem connectOpensACleanSessionOrAnswersFalse : Obligations.ConnectOpensACleanSessionOrAnswersFalse := exec_connect

/-- Settles O8: of the three variants `USB` alone is not serial. -/
theorem isserialIsTrueOfTheSerialVariantsOnly : Obligations.IsserialIsTrueOfTheSerialVariantsOnly := by
  refine fun s => ⟨s.variant != .usb, rfl, ?_⟩
  cases s.variant <;> decide

theorem exec_dlmode_of_open (s : State) (on : Bool) (hv : s.variant = .opos) (ho : s.isOpen = true) :
    exec (.dlmode on) s = finish ((s.setDlMode on).setDlAckValid false) := by
  simp [exec, execDlmode, hv, ho]

/-- Settles O9: the two tests of DLMODE, in order. -/
theorem dlmodeSwitchesTheModeOfAnOpenOposSession : Obligations.DlmodeSwitchesTheModeOfAnOpenOposSession := by
  refine fun s on => ⟨exec_dlmode_of_open s on, fun hv => ?notOpos, fun hv hclosed => ?closed⟩
  case notOpos => exact if_pos (bne_iff_ne.mpr hv)
  case closed => simp [exec, execDlmode, hv, hclosed]

/-! ### SEND and SENDW (R187, R188) -/

theorem exec_send (s : State) (ft : Byte) (data : List Byte) (ok : Bool) :
    exec (.send ft data ok) s =
      next ((sendFrame ft data ok s).2.report .done (.bool (sendFrame ft data ok s).1)) := rfl

/-- Settles O10: SEND without a frame on the channel, with the whole frame, and with a first part of it. -/
theorem sendWritesTheFrameOrAnswersFalse : Obligations.SendWritesTheFrameOrAnswersFalse := by
  refine fun s ft data ok => ⟨fun hnone => ?_, fun w ho hd hw => ⟨?_, ?_⟩⟩
  · rw [exec_send, sendFrame_refused ft data ok s hnone]
    rfl
  · rintro rfl
    rw [exec_send, sendFrame_written ft data w true s ho hd hw]
    rfl
  · rintro rfl
    refine ⟨w.take (Config.cutLength s.draws), List.take_prefix _ w, ?_⟩
    rw [exec_send, sendFrame_written ft data w false s ho hd hw]
    rfl

theorem exec_sendw_of_pend (s : State) (ft : Byte) (data : List Byte) (ok : Bool) (h : s.pend = true) :
    exec (.sendw ft data ok) s = refused .exchangeOutstanding :=
  if_pos h

/-- With no exchange alive SENDW ends as its SEND does, and creates the exchange where that answers true. -/
theorem exec_sendw_of_not_pend (s : State) (ft : Byte) (data : List Byte) (ok : Bool) (h : s.pend = false) :
    ((sendFrame ft data ok s).1 = true ∧
      exec (.sendw ft data ok) s =
        next ((((sendFrame ft data ok s).2.setPend true).setRspValid false).report .done (.bool true))) ∨
    ((sendFrame ft data ok s).1 = false ∧
      exec (.sendw ft data ok) s = next ((sendFrame ft data ok s).2.report .done (.bool false))) := by
  simp only [exec, execSendw, h]
  obtain ⟨sent, t⟩ := sendFrame ft data ok s
  cases sent with
  | true => exact .inl ⟨rfl, rfl⟩
  | false => exact .inr ⟨rfl, rfl⟩

/-- Settles O11: `exec_sendw_of_not_pend`, with the state after SEND named. -/
theorem sendwCreatesAnExchangeWhenSendSucceeds : Obligations.SendwCreatesAnExchangeWhenSendSucceeds := by
  refine fun s ft data ok => ⟨exec_sendw_of_pend s ft data ok, fun hpend => ⟨_, exec_send s ft data ok, ?_⟩⟩
  obtain ⟨hsent, hexec⟩ | ⟨hsent, hexec⟩ := exec_sendw_of_not_pend s ft data ok hpend
  · exact .inl ⟨by simp [hsent], by rw [hexec, hsent]; rfl⟩
  · exact .inr ⟨by simp [hsent], by rw [hexec, hsent]⟩

/-! ### TAKE, RDSTAT and DLTAKE (R189, R190, R196) -/

/-- Settles O12: TAKE branches on `rsp_valid` as the statement does. -/
theorem takeHandsOverTheStoredResponse : Obligations.TakeHandsOverTheStoredResponse := fun _ => rfl

/-- Settles O13: RDSTAT reports the status, and DLTAKE branches on `dl_ack_valid` as the statement does. -/
theorem rdstatAndDltakeReadOut : Obligations.RdstatAndDltakeReadOut := ⟨fun _ => rfl, fun _ => rfl⟩

end Sys2Proof.Proofs
end

section
/-! Whole-machine rules (10_state.md sections 3, 4 and 6, 20_memory.md section 5, 60_exceptions.md): what no operation
does, from the inversions `exec_line_cases` and `exec_named_cases`, and the obligations that say so. -/

namespace Sys2Proof.Proofs

open Sys2Proof.Machine Host.Outcome

/-! ### What the line leaves unchanged -/

/-- The registers that no row of the line writes, beside `open`, which an empty transfer and a channel failure clear. -/
theorem lineEffect_keeps {s t : State} (h : LineEffect s t) :
    t = { s with ls := t.ls, body := t.body, csum := t.csum, ackSeen := t.ackSeen, rspValid := t.rspValid,
                 rspBuf := t.rspBuf, dlAck := t.dlAck, dlAckValid := t.dlAckValid, tx := t.tx, ev := t.ev,
                 label := t.label, result := t.result } := by
  obtain ⟨u, hline, hu⟩ := h
  rw [hline]
  obtain rfl | ⟨b, rfl⟩ | rfl | ⟨x, p, rfl⟩ | ⟨x, e, rfl⟩ := hu <;> rfl

theorem lineEffect_streams {s t : State} (h : LineEffect s t) : s.tx <+: t.tx ∧ s.ev <+: t.ev := by
  obtain ⟨u, hline, hu⟩ := h
  rw [hline]
  obtain rfl | ⟨b, rfl⟩ | rfl | ⟨x, p, rfl⟩ | ⟨x, e, rfl⟩ := hu <;> simp

/-- Of `ack_seen`, `rsp_valid` and `ev` the line changes at most one in a step. -/
theorem lineEffect_notifies_once {s t : State} (h : LineEffect s t) :
    (t.rspValid = s.rspValid ∧ t.ev = s.ev) ∨ (t.ackSeen = s.ackSeen ∧ t.ev = s.ev) ∨
      (t.ackSeen = s.ackSeen ∧ t.rspValid = s.rspValid) := by
  obtain ⟨u, hline, hu⟩ := h
  rw [hline]
  obtain rfl | ⟨b, rfl⟩ | rfl | ⟨x, p, rfl⟩ | ⟨x, e, rfl⟩ := hu <;> simp

/-! ### The pending exchange (R27, R194) -/

/-- Settles O15: of the named operations four write `pend`; the line writes it never. -/
theorem exchangeIsCreatedBySendwAndDestroyedByTakeExpireOrReset :
    Obligations.ExchangeIsCreatedBySendwAndDestroyedByTakeExpireOrReset := by
  intro i s t h
  have keep (hsame : t.pend = s.pend) :
      (s.pend = false → t.pend = true → t.result = .bool true ∧ ∃ ft data ok, i = .sendw ft data ok) ∧
      (s.pend = true → t.pend = false → i = .reset ∨ i = .expire ∨ (i = .take ∧ s.rspValid = true)) := by
    rw [hsame]
    exact ⟨fun hf ht => by simp [hf] at ht, fun ht hf => by simp [ht] at hf⟩
  cases hn : i.isByName with
  | false =>
    obtain hline | ⟨rfl, -⟩ := exec_line_cases i s t hn h
    · exact keep (by rw [lineEffect_keeps hline])
    · exact keep rfl
  | true =>
    rcases exec_named_cases i s t hn h with
      ⟨rfl, rfl⟩ | ⟨-, c, a, w, v, a', w', -, rfl⟩ | ⟨-, -, rfl⟩ | ⟨-, rfl⟩ | ⟨e, -, rfl⟩ | ⟨e, -, -, -, rfl⟩ |
      ⟨w, r, rfl, -⟩ | ⟨w, r, -, rfl⟩ | ⟨w, hsendw, -, rfl⟩ | ⟨rfl, hvalid, r, rfl⟩ | ⟨r, rfl⟩ | ⟨rfl, rfl⟩ | ⟨r, rfl⟩
    any_goals exact keep rfl
    · exact ⟨fun _ ht => (nomatch ht), fun _ _ => .inl rfl⟩
    · exact ⟨fun _ _ => ⟨rfl, hsendw⟩, fun _ hf => (nomatch hf)⟩
    · exact ⟨fun _ ht => (nomatch ht), fun _ _ => .inr (.inr ⟨rfl, hvalid⟩)⟩
    · exact ⟨fun _ ht => (nomatch ht), fun _ _ => .inr (.inl rfl)⟩

/-! ### The streams (R37, R68) -/

/-- Settles O49: an operation appends to the streams or leaves them, and none writes the parameters or the arrivals. -/
theorem streamsOnlyGrowAndParametersAreConstant : Obligations.StreamsOnlyGrowAndParametersAreConstant := by
  intro i s t h
  cases hn : i.isByName with
  | false =>
    obtain hline | ⟨rfl, -⟩ := exec_line_cases i s t hn h
    · obtain ⟨htx, hev⟩ := lineEffect_streams hline
      exact ⟨htx, hev, by rw [lineEffect_keeps hline], by rw [lineEffect_keeps hline]⟩
    · exact ⟨List.prefix_rfl, List.prefix_rfl, rfl, rfl⟩
  | true =>
    rcases exec_named_cases i s t hn h with
      ⟨-, rfl⟩ | ⟨-, c, a, w, v, a', w', -, rfl⟩ | ⟨-, -, rfl⟩ | ⟨-, rfl⟩ | ⟨e, -, rfl⟩ | ⟨e, -, -, -, rfl⟩ |
      ⟨w, r, rfl, -⟩ | ⟨w, r, -, rfl⟩ | ⟨w, -, -, rfl⟩ | ⟨-, -, r, rfl⟩ | ⟨r, rfl⟩ | ⟨-, rfl⟩ | ⟨r, rfl⟩ <;>
      simp

/-! ### Configuration and control bits (R29 to R34) -/

/-- Settles O50: RESET and CFG alone write the configuration, and CFG finds the session closed and leaves it so. -/
theorem configurationChangesOnlyByCfgWhileClosedOrReset :
    Obligations.ConfigurationChangesOnlyByCfgWhileClosedOrReset := by
  intro i s t h hchange
  cases hn : i.isByName with
  | false =>
    obtain hline | ⟨rfl, -⟩ := exec_line_cases i s t hn h
    · rw [lineEffect_keeps hline] at hchange
      simp at hchange
    · simp at hchange
  | true =>
    rcases exec_named_cases i s t hn h with
      ⟨hreset, -⟩ | ⟨hclosed, c, a, w, v, a', w', hcfg, rfl⟩ | ⟨-, -, rfl⟩ | ⟨-, rfl⟩ | ⟨e, -, rfl⟩ |
      ⟨e, -, -, -, rfl⟩ | ⟨w, r, rfl, -⟩ | ⟨w, r, -, rfl⟩ | ⟨w, -, -, rfl⟩ | ⟨-, -, r, rfl⟩ | ⟨r, rfl⟩ | ⟨-, rfl⟩ |
      ⟨r, rfl⟩
    · exact .inl hreset
    · exact .inr ⟨hclosed, hclosed, c, a, w, hcfg⟩
    all_goals simp at hchange

/-- Settles O51: by the inversions, each operation that writes one of the three bits is one that the statement names. -/
theorem controlBitsChangeOnlyByTheirWriters : Obligations.ControlBitsChangeOnlyByTheirWriters := by
  intro i s t h
  cases hn : i.isByName with
  | false =>
    obtain hline | ⟨rfl, hi⟩ := exec_line_cases i s t hn h
    · have hopen : t.isOpen = s.isOpen := by rw [lineEffect_keeps hline]
      have htrace : t.trace = s.trace := by rw [lineEffect_keeps hline]
      have hmode : t.dlMode = s.dlMode := by rw [lineEffect_keeps hline]
      simp +contextual [hopen, htrace, hmode]
    · refine ⟨fun _ ht => (nomatch ht), fun _ _ => ?_, fun hne => absurd rfl hne, fun hne => absurd rfl hne⟩
      obtain rfl | rfl := hi
      · exact .inr (.inr (.inl rfl))
      · exact .inr (.inr (.inr (.inl rfl)))
  | true =>
    rcases exec_named_cases i s t hn h with
      ⟨rfl, rfl⟩ | ⟨-, c, a, w, v, a', w', -, rfl⟩ | ⟨rfl, hclosed, rfl⟩ | ⟨rfl, rfl⟩ | ⟨e, rfl, rfl⟩ |
      ⟨e, rfl, -, -, rfl⟩ | ⟨w, r, rfl, -⟩ | ⟨w, r, ⟨ft, data, rfl | rfl⟩, rfl⟩ | ⟨w, -, -, rfl⟩ | ⟨-, -, r, rfl⟩ |
      ⟨r, rfl⟩ | ⟨-, rfl⟩ | ⟨r, rfl⟩ <;>
      simp +contextual

/-! ### Flags and notifications (R25, R26, R28, R233) -/

/-- Settles O53: a named operation clears the line's flags or leaves them. -/
theorem namedOperationsRaiseNoLineFlag : Obligations.NamedOperationsRaiseNoLineFlag := by
  intro i s t hn h
  rcases exec_named_cases i s t hn h with
    ⟨-, rfl⟩ | ⟨-, c, a, w, v, a', w', -, rfl⟩ | ⟨-, -, rfl⟩ | ⟨-, rfl⟩ | ⟨e, -, rfl⟩ | ⟨e, -, -, -, rfl⟩ |
    ⟨w, r, rfl, -⟩ | ⟨w, r, -, rfl⟩ | ⟨w, -, -, rfl⟩ | ⟨-, -, r, rfl⟩ | ⟨r, rfl⟩ | ⟨-, rfl⟩ | ⟨r, rfl⟩ <;>
    simp

theorem not_rises_of_imp {x y : Bool} (h : y = true → x = true) : ¬(x = false ∧ y = true) := by
  rintro ⟨hx, hy⟩
  simp [h hy] at hx

/-- Settles O32: a named operation raises nothing; the line raises at most one, and what closes the session raises
nothing. -/
theorem oneOperationRaisesAtMostOneNotification : Obligations.OneOperationRaisesAtMostOneNotification := by
  intro i s t h
  dsimp only
  cases hn : i.isByName with
  | true =>
    obtain ⟨hack, hrsp, -, hev⟩ := namedOperationsRaiseNoLineFlag i s t hn h
    have hnoAck := not_rises_of_imp hack
    have hnoRsp := not_rises_of_imp hrsp
    have hnoEv : ¬s.ev ≠ t.ev := not_not.mpr hev.symm
    tauto
  | false =>
    obtain hline | ⟨rfl, -⟩ := exec_line_cases i s t hn h
    · have hopen : ¬(s.isOpen = true ∧ t.isOpen = false) := by
        rw [lineEffect_keeps hline]
        simp
      obtain ⟨hrsp, hev⟩ | ⟨hack, hev⟩ | ⟨hack, hrsp⟩ := lineEffect_notifies_once hline
      · have hnoRsp := not_rises_of_imp hrsp.symm.trans
        have hnoEv : ¬s.ev ≠ t.ev := not_not.mpr hev.symm
        tauto
      · have hnoAck := not_rises_of_imp hack.symm.trans
        have hnoEv : ¬s.ev ≠ t.ev := not_not.mpr hev.symm
        tauto
      · have hnoAck := not_rises_of_imp hack.symm.trans
        have hnoRsp := not_rises_of_imp hrsp.symm.trans
        tauto
    · simp

/-! ### The assembler registers of the named operations (10_state.md section 2) -/

/-- Changing the state by `g` first and changing the next state by `g` is the same. A meaning of one branch that neither
reads nor writes what `g` changes has this by unfolding (`fun _ => rfl`). -/
def CommutesWith (g : State → State) (m : State → Host.Outcome State Fault Refusal) : Prop :=
  ∀ s, m (g s) = mapNext g (m s)

/-- A choice by a condition that `g` does not touch. -/
theorem CommutesWith.ite {g : State → State} {c : State → Prop} {_ : DecidablePred c}
    {m n : State → Host.Outcome State Fault Refusal} (hc : ∀ s, c (g s) ↔ c s) (hm : CommutesWith g m)
    (hn : CommutesWith g n) : CommutesWith g (fun s => if c s then m s else n s) := by
  intro s
  by_cases h : c s
  · simpa only [hc, h, if_true] using hm s
  · simpa only [hc, h, if_false] using hn s

section Assembler

variable (l : LinkState) (body : List Byte) (c : Byte)

theorem sendFrame_withAssembler (ft : Byte) (data : List Byte) (ok : Bool) (s : State) :
    sendFrame ft data ok (s.withAssembler l body c) =
      ((sendFrame ft data ok s).1, (sendFrame ft data ok s).2.withAssembler l body c) := by
  by_cases h : s.isOpen = false ∨ s.dlMode = true ∨ encodeFor s.params s.variant ft s.addrByte data = none
  · rw [sendFrame_refused ft data ok s h, sendFrame_refused ft data ok (s.withAssembler l body c) h]
  · simp only [not_or, Bool.not_eq_false, Bool.not_eq_true] at h
    obtain ⟨hopen, hmode, hframe⟩ := h
    obtain ⟨w, hw⟩ := Option.ne_none_iff_exists'.mp hframe
    rw [sendFrame_written ft data w ok s hopen hmode hw,
      sendFrame_written ft data w ok (s.withAssembler l body c) hopen hmode hw]
    cases ok <;> rfl

theorem execSend_commutesWith (ft : Byte) (data : List Byte) (ok : Bool) :
    CommutesWith (fun s => s.withAssembler l body c) (execSend ft data ok) := by
  intro s
  rw [execSend, sendFrame_withAssembler]
  rfl

theorem execSendw_commutesWith (ft : Byte) (data : List Byte) (ok : Bool) :
    CommutesWith (fun s => s.withAssembler l body c) (execSendw ft data ok) := by
  refine .ite (fun _ => Iff.rfl) (fun _ => rfl) fun s => ?_
  rw [sendFrame_withAssembler]
  obtain ⟨sent, t⟩ := sendFrame ft data ok s
  cases sent <;> rfl

theorem execCfg_commutesWith (code : BitVec 2) (addr : Nat) (w : List Byte) :
    CommutesWith (fun s => s.withAssembler l body c) (execCfg code addr w) := by
  refine .ite (fun _ => Iff.rfl) (fun _ => rfl) ?closed
  case closed =>
    cases variantOfCode code with
    | none => exact fun _ => rfl
    | some v => exact .ite (fun _ => Iff.rfl) (fun _ => rfl) (fun _ => rfl)

/-- The named operations but RESET and CONNECT do not touch the assembler. Those left to the last line have one
branch. -/
theorem exec_named_commutesWith (i : Instr) (hn : i.isByName = true) (hreset : i ≠ .reset)
    (hconnect : ∀ ok, i ≠ .connect ok) : CommutesWith (fun s => s.withAssembler l body c) (exec i) := by
  cases i <;> cases hn
  case reset => exact absurd rfl hreset
  case connect ok => exact absurd rfl (hconnect ok)
  case cfg code addr w => exact execCfg_commutesWith l body c code addr w
  case dlmode =>
    exact .ite (fun _ => Iff.rfl) (fun _ => rfl) (.ite (fun _ => Iff.rfl) (fun _ => rfl) fun _ => rfl)
  case send ft data ok => exact execSend_commutesWith l body c ft data ok
  case sendw ft data ok => exact execSendw_commutesWith l body c ft data ok
  case take | dltake => exact .ite (fun _ => Iff.rfl) (fun _ => rfl) fun _ => rfl
  all_goals exact fun _ => rfl

end Assembler

/-- Settles O52: what commutes with every replacement of the assembler registers commutes with the one that replaces
them by themselves, so it leaves them as they were. -/
theorem namedOperationsLeaveTheAssemblerAlone : Obligations.NamedOperationsLeaveTheAssemblerAlone := by
  intro i s l body c hn hreset hconnect
  refine ⟨exec_named_commutesWith l body c i hn hreset hconnect s, fun t ht => ?_⟩
  have hown : exec i s = mapNext (fun t => t.withAssembler s.ls s.body s.csum) (exec i s) :=
    exec_named_commutesWith s.ls s.body s.csum i hn hreset hconnect s
  rw [ht] at hown
  have ht' : t = t.withAssembler s.ls s.body s.csum := by simpa [mapNext] using hown
  rw [ht']
  exact ⟨rfl, rfl, rfl⟩

/-! ### Steps (R24, R64) -/

/-- Settles O47: the three cases of a step. -/
theorem stepRunsTheArrivingOperation : Obligations.StepRunsTheArrivingOperation := by
  refine fun s => ⟨fun a rest i ha hi => step_arrival ha hi, fun a rest ha hi => ?_, fun ha => ?_⟩
  · simp [step, State.fetch, ha, hi]
  · simp [step, State.fetch, ha]

/-- A refusal that the spec gives an operation: not that of a row that was not selected, nor of one without a
meaning. -/
def IsSpecRefusal (r : Refusal) : Prop :=
  r ≠ .rowNotSelected ∧ ∀ m, r ≠ .notModelled m

theorem exec_rxb_refusal {b : Byte} {s : State} {r : Refusal} (h : exec (.rxb b) s = refused r) : IsSpecRefusal r := by
  simp only [exec, execRxb] at h
  split at h
  · cases h
    exact ⟨nofun, nofun⟩
  next v _ =>
  split at h
  · cases h
  split at h
  · cases h
  · obtain ⟨t, hnext, -⟩ := transition_lineEffect v b s
    cases hnext.symm.trans h

theorem exec_rxt_refusal {xs : List Byte} {s : State} {r : Refusal} (h : exec (.rxt xs) s = refused r) :
    IsSpecRefusal r := by
  simp only [exec, execRxt] at h
  split at h
  · cases h
    exact ⟨nofun, nofun⟩
  split at h
  · cases h
  split at h
  · cases h
  split at h
  · cases h
  next f _ =>
  obtain ⟨t, hnext, -⟩ := deliver_lineEffect f s
  cases hnext.symm.trans h

theorem exec_cfg_refusal {code : BitVec 2} {addr : Nat} {w : List Byte} {s : State} {r : Refusal}
    (h : exec (.cfg code addr w) s = refused r) : IsSpecRefusal r := by
  simp only [exec, execCfg] at h
  split at h
  · cases h
    exact ⟨nofun, nofun⟩
  split at h
  · cases h
    exact ⟨nofun, nofun⟩
  split at h <;> cases h
  exact ⟨nofun, nofun⟩

theorem exec_sendw_refusal {ft : Byte} {data : List Byte} {ok : Bool} {s : State} {r : Refusal}
    (h : exec (.sendw ft data ok) s = refused r) : IsSpecRefusal r := by
  cases hpend : s.pend with
  | true =>
    cases (exec_sendw_of_pend s ft data ok hpend).symm.trans h
    exact ⟨nofun, nofun⟩
  | false =>
    obtain ⟨-, hnext⟩ | ⟨-, hnext⟩ := exec_sendw_of_not_pend s ft data ok hpend
    · cases hnext.symm.trans h
    · cases hnext.symm.trans h

theorem exec_dlmode_refusal {on : Bool} {s : State} {r : Refusal} (h : exec (.dlmode on) s = refused r) :
    IsSpecRefusal r := by
  simp only [exec, execDlmode] at h
  split at h
  · cases h
    exact ⟨nofun, nofun⟩
  split at h <;> cases h
  exact ⟨nofun, nofun⟩

/-- Of the named operations CFG, SENDW and DLMODE alone refuse. -/
theorem exec_named_refusal {i : Instr} {s : State} {r : Refusal} (hn : i.isByName = true) (h : exec i s = refused r) :
    IsSpecRefusal r := by
  cases i <;> cases hn
  case cfg => exact exec_cfg_refusal h
  case sendw => exact exec_sendw_refusal h
  case dlmode => exact exec_dlmode_refusal h
  case connect ok =>
    rw [exec_connect] at h
    split at h <;> cases h
  case take | dltake =>
    simp only [exec, execTake, execDltake] at h
    split at h <;> cases h
  all_goals cases h

/-- A step refuses for a reason of the spec or because no agent issues the name. -/
theorem step_refusal {s : State} {r : Refusal} (h : step s = refused r) : IsSpecRefusal r := by
  obtain hwait | hrefused | ⟨rest, ⟨b, hrun⟩ | ⟨xs, hrun⟩ | hrun | ⟨i, hname, hrun⟩⟩ := step_by_agent s
  · cases hwait.symm.trans h
  · cases hrefused.symm.trans h
    exact ⟨nofun, nofun⟩
  · exact exec_rxb_refusal (hrun.symm.trans h)
  · exact exec_rxt_refusal (hrun.symm.trans h)
  · rw [exec, execCherr_eq] at hrun
    cases hrun.symm.trans h
  · exact exec_named_refusal hname (hrun.symm.trans h)

/-- Settles O48: `step_refusal`, for the two refusals named. -/
theorem stepNeverRunsAnUnselectedRow : Obligations.StepNeverRunsAnUnselectedRow :=
  fun _ => ⟨fun h => (step_refusal h).1 rfl, fun m h => (step_refusal h).2 m rfl⟩

/-! ### The bound on the body across CFG (log entry 11) -/

/-- A closed `S450` session left with a body of 259 bytes, and CFG to OPOS arriving. -/
def closedMidBody : State :=
  { State.reset with
    variant := .s450, body := List.replicate 259 0, arrivals := [.named (.cfg Variant.opos.code 0 [])] }

theorem step_closedMidBody :
    step closedMidBody =
      next (((closedMidBody.setArrivals []).setConfig .opos 0 (watchOf [])).report .done .unit) := rfl

/-- Refutes O56: from `closedMidBody`, within the bound of `S450`, the step ends in OPOS with the 259 bytes, one over
its bound. -/
theorem not_bodyBoundSurvivesReconfiguration : ¬ Obligations.BodyBoundSurvivesReconfiguration := by
  intro h
  have hlen : closedMidBody.blen = 259 := List.length_replicate
  have hafter := h .s450 .opos closedMidBody _ rfl (by rw [hlen]; decide) step_closedMidBody rfl
  have hbound : closedMidBody.blen ≤ bodyMax .opos := hafter
  rw [hlen] at hbound
  exact absurd hbound (by decide)

end Sys2Proof.Proofs
end

section
/-! Runs (40_codec.md section 5, 70_reset_and_hazards.md section 2): the byte stream against whole-frame decode,
download mode, and the obligations about them. -/

namespace Sys2Proof.Proofs

open Sys2Proof.Machine Host.Outcome

/-! ### Download mode (R151, R216, R266) -/

theorem step_dlmode {s : State} {rest : List Arrival} (on : Bool) (hv : s.variant = .opos) (ho : s.isOpen = true)
    (ha : s.arrivals = .named (.dlmode on) :: rest) :
    step s = next ((((s.setArrivals rest).setDlMode on).setDlAckValid false).report .done .unit) := by
  rw [step_arrival ha rfl]
  exact exec_dlmode_of_open (s.setArrivals rest) on hv ho

/-- Bytes that arrive in download mode are captured one after the other; the last one stays. -/
theorem runSteps_capture (rest : List Arrival) (bs : List Byte) :
    ∀ s : State, s.variant = .opos → s.isOpen = true → s.dlMode = true → s.arrivals = bs.map .byte ++ rest →
      ∃ valid l r, runSteps bs.length s =
        next { s with dlAck := bs.getLastD s.dlAck, dlAckValid := valid, label := l, result := r,
                      arrivals := rest } := by
  induction bs with
  | nil =>
    intro s _ _ _ ha
    obtain rfl : s.arrivals = rest := ha
    exact ⟨s.dlAckValid, s.label, s.result, rfl⟩
  | cons b bs ih =>
    intro s hv ho hd ha
    have hstep : step s = next (((s.setArrivals (bs.map .byte ++ rest)).captureRaw b).report .done .unit) :=
      (step_byte ha).trans (exec_rxb_capturing (s.setArrivals _) b hv ho hd)
    obtain ⟨valid, l, r, hrun⟩ :=
      ih (((s.setArrivals (bs.map .byte ++ rest)).captureRaw b).report .done .unit) hv ho hd rfl
    refine ⟨valid, l, r, ?_⟩
    rw [List.length_cons, runSteps_succ _ hstep, hrun, List.getLastD_cons]
    rfl

theorem runSteps_one (s : State) : runSteps 1 s = step s := by
  cases h : step s <;> simp [runSteps, h]

/-- The captures, then DLMODE with the mode cleared: nothing of the captures but the last byte is left. -/
theorem runSteps_capture_clear (rest : List Arrival) (bs : List Byte) (s : State) (hv : s.variant = .opos)
    (ho : s.isOpen = true) (hd : s.dlMode = true)
    (ha : s.arrivals = bs.map .byte ++ .named (.dlmode false) :: rest) :
    runSteps (bs.length + 1) s =
      next { s with dlMode := false, dlAck := bs.getLastD s.dlAck, dlAckValid := false, label := .done,
                    result := .unit, arrivals := rest } := by
  obtain ⟨valid, l, r, hrun⟩ := runSteps_capture (.named (.dlmode false) :: rest) bs s hv ho hd ha
  rw [runSteps_add bs.length 1 hrun, runSteps_one]
  exact step_dlmode false hv ho rfl

/-- Settles O24: DLMODE, the captures, DLMODE; none of them writes the assembler. -/
theorem downloadModeFreezesTheAssembler : Obligations.DownloadModeFreezesTheAssembler := by
  intro s bs rest hv ho ha
  refine ⟨_, ?_, rfl⟩
  rw [runSteps_succ _ (step_dlmode true hv ho ha)]
  exact runSteps_capture_clear rest bs _ hv ho rfl rfl

/-! ### The scan and the byte stream (R128, R134) -/

/-- The link state in which the assembler stands while the scan has, or has not, just seen a stuff sentinel. -/
def scanState (escaped : Bool) : LinkState :=
  if escaped then .escapeSeen else .receiving

theorem assemblingIn_of_same {s t : State} {v : Serial} {l l' : LinkState} (hsame : SameButAssembler s t)
    (hs : s.AssemblingIn v l) (hls : t.ls = l') : t.AssemblingIn v l' := by
  obtain ⟨hv, ho, hd, -⟩ := hs
  refine ⟨?_, ?_, ?_, hls⟩
  · rw [hsame]; exact hv
  · rw [hsame]; exact ho
  · rw [hsame]; exact hd

theorem params_of_same {s t : State} (hsame : SameButAssembler s t) : t.params = s.params := by
  rw [hsame]

theorem sameButAssembler_refl (s : State) : SameButAssembler s s := rfl

/-- A byte with room for it is stored. -/
theorem accumulate_of_room (v : Serial) (x : Byte) (l : LinkState) (s : State)
    (hroom : (s.body ++ [x]).length ≤ bodyMax v) :
    accumulate v x l s = next (((s.pushByte x).setLs l).report .done .unit) := by
  rw [accumulate_eq, if_neg]
  rw [List.length_append, List.length_singleton] at hroom
  exact Nat.ne_of_lt hroom

/-- The scan goes on over a byte after a stuff sentinel only with room for it. -/
theorem scanInterior_escaped (p : Params) (v : Serial) (body mid : List Byte) (b : Byte)
    (hr : IsParseAnswer (scanInterior p v body true (b :: mid))) :
    (body ++ [unescByte p v b]).length ≤ bodyMax v ∧
      scanInterior p v body true (b :: mid) = scanInterior p v (body ++ [unescByte p v b]) false mid := by
  simp only [scanInterior, if_true] at hr ⊢
  split at hr
  · simp [isParseAnswer_err] at hr
  · next hroom => exact ⟨Nat.not_lt.mp hroom, if_neg hroom⟩

/-- The scan goes on over any other byte if it is a stuff sentinel, or an ordinary byte with room for it. -/
theorem scanInterior_unescaped (p : Params) (v : Serial) (body mid : List Byte) (b : Byte)
    (hr : IsParseAnswer (scanInterior p v body false (b :: mid))) :
    (b = stuffOf p v ∧ scanInterior p v body false (b :: mid) = scanInterior p v body true mid) ∨
    (isSentinel p v b = false ∧ (body ++ [b]).length ≤ bodyMax v ∧
      scanInterior p v body false (b :: mid) = scanInterior p v (body ++ [b]) false mid) := by
  simp only [scanInterior, Bool.false_eq_true, if_false] at hr ⊢
  split at hr
  · next hstuff => exact .inl ⟨hstuff, if_pos hstuff⟩
  next hstuff =>
  split at hr
  · simp [isParseAnswer_err] at hr
  next hdelim =>
  split at hr
  · simp [isParseAnswer_err] at hr
  next hroom =>
  refine .inr ⟨?_, Nat.not_lt.mp hroom, by rw [if_neg hstuff, if_neg hdelim, if_neg hroom]⟩
  rw [← Bool.not_eq_true, isSentinel_iff]
  tauto

/-- The step of a byte of a frame is a step of the scan, where the scan does not end here in an error of its own. -/
theorem step_scan {s : State} {v : Serial} {escaped : Bool} {b : Byte} {mid : List Byte} {rest : List Arrival}
    (hs : s.AssemblingIn v (scanState escaped)) (ha : s.arrivals = .byte b :: rest)
    (hr : IsParseAnswer (scanInterior s.params v s.body escaped (b :: mid))) :
    ∃ t escaped', step s = next t ∧ SameButAssembler s t ∧ t.ls = scanState escaped' ∧ t.arrivals = rest ∧
      scanInterior s.params v s.body escaped (b :: mid) = scanInterior t.params v t.body escaped' mid := by
  obtain ⟨hv, ho, hd, hls⟩ := hs
  rw [step_serial ha hv ho hd]
  cases escaped with
  | true =>
    obtain ⟨hroom, hscan⟩ := scanInterior_escaped s.params v s.body mid b hr
    refine ⟨(((s.setArrivals rest).pushByte (unescByte s.params v b)).setLs .receiving).report .done .unit, false, ?_,
      rfl, rfl, rfl, hscan⟩
    rw [transition_escapeSeen v b (s.setArrivals rest) hls, escapedByte]
    exact accumulate_of_room v _ .receiving (s.setArrivals rest) hroom
  | false =>
    obtain ⟨rfl, hscan⟩ | ⟨hord, hroom, hscan⟩ := scanInterior_unescaped s.params v s.body mid b hr
    · exact ⟨_, true, transition_receiving_stuff v (s.setArrivals rest) hls, rfl, rfl, rfl, hscan⟩
    · refine ⟨(((s.setArrivals rest).pushByte b).setLs .receiving).report .done .unit, false, ?_, rfl, rfl, rfl, hscan⟩
      rw [transition_receiving_ord v b (s.setArrivals rest) hls hord, ordinaryByte]
      exact accumulate_of_room v b .receiving (s.setArrivals rest) hroom

/-- Bytes that the scan takes to `PARSE` are assembled to the body that it parses. -/
theorem runSteps_scan (v : Serial) (rest : List Arrival) (mid : List Byte) :
    ∀ (s : State) (escaped : Bool), s.AssemblingIn v (scanState escaped) → s.arrivals = mid.map .byte ++ rest →
      IsParseAnswer (scanInterior s.params v s.body escaped mid) →
      ∃ t, runSteps mid.length s = next t ∧ SameButAssembler s t ∧ t.ls = .receiving ∧ t.arrivals = rest ∧
        parseBody s.params v t.body = scanInterior s.params v s.body escaped mid := by
  induction mid with
  | nil =>
    intro s escaped hs ha hr
    cases escaped with
    | true => simp [scanInterior, isParseAnswer_err] at hr
    | false => exact ⟨s, rfl, sameButAssembler_refl s, ls_of_assemblingIn hs, ha, rfl⟩
  | cons b mid ih =>
    intro s escaped hs ha hr
    obtain ⟨t, escaped', hstep, hsame, hls, harr, hscan⟩ := step_scan hs ha hr
    rw [hscan] at hr ⊢
    obtain ⟨u, hrun, hsame', hls', harr', hparse⟩ := ih t escaped' (assemblingIn_of_same hsame hs hls) harr hr
    refine ⟨u, ?_, sameButAssembler_trans hsame hsame', hls', harr', ?_⟩
    · rw [List.length_cons, runSteps_succ _ hstep, hrun]
    · rw [← params_of_same hsame, hparse]

/-- A start delimiter in `IDLE` or `RECEIVING` leaves an empty body being received. -/
theorem step_startOf {s : State} {v : Serial} {rest : List Arrival} (hv : s.variant = v.toVariant)
    (ho : s.isOpen = true) (hd : s.dlMode = false) (hls : s.ls ≠ .escapeSeen)
    (ha : s.arrivals = .byte (startOf s.params v) :: rest) :
    ∃ l, step s = next (((s.setArrivals rest).startBody v).report l .unit) := by
  rw [step_serial ha hv ho hd]
  cases hl : s.ls with
  | idle => exact ⟨.done, transition_idle_start v (s.setArrivals rest) hl⟩
  | receiving =>
    exact ⟨_, (transition_receiving_start v (s.setArrivals rest) hl).trans (restartFrame_eq v (s.setArrivals rest))⟩
  | escapeSeen => exact absurd hl hls

/-- The run over a start delimiter and bytes that the scan takes to `PARSE`. -/
theorem runSteps_opening {s : State} {v : Serial} {mid : List Byte} {rest : List Arrival}
    (hv : s.variant = v.toVariant) (ho : s.isOpen = true) (hd : s.dlMode = false) (hls : s.ls ≠ .escapeSeen)
    (ha : s.arrivals = (startOf s.params v :: mid).map .byte ++ rest)
    (hr : IsParseAnswer (scanInterior s.params v [] false mid)) :
    ∃ t, runSteps (mid.length + 1) s = next t ∧ SameButAssembler s t ∧ t.ls = .receiving ∧ t.arrivals = rest ∧
      parseBody s.params v t.body = scanInterior s.params v [] false mid := by
  obtain ⟨l, hstep⟩ := step_startOf hv ho hd hls ha
  obtain ⟨t, hrun, hsame, hls', harr, hparse⟩ :=
    runSteps_scan v rest mid (((s.setArrivals (mid.map .byte ++ rest)).startBody v).report l .unit) false
      ⟨hv, ho, hd, rfl⟩ rfl hr
  exact ⟨t, (runSteps_succ _ hstep).trans hrun, sameButAssembler_trans rfl hsame, hls', harr, hparse⟩

/-- R134: the run over the bytes of a frame that whole-frame decode takes to `PARSE` changes the assembler alone before
the end delimiter, and there `PARSE` answers the same. -/
theorem runSteps_frame {s : State} {v : Serial} {raw : List Byte} {rest : List Arrival} (hv : s.variant = v.toVariant)
    (ho : s.isOpen = true) (hd : s.dlMode = false) (hls : s.ls ≠ .escapeSeen)
    (ha : s.arrivals = raw.map .byte ++ rest) (hr : IsParseAnswer (decodeSerial s.params v raw)) :
    ∃ t, runSteps (raw.length - 1) s = next t ∧ SameButAssembler s t ∧ t.ls = .receiving ∧
      parseBody t.params v t.body = decodeSerial s.params v raw ∧
      runSteps raw.length s = endFrame v (t.setArrivals rest) := by
  obtain hbad | ⟨mid, rfl⟩ := decodeSerial_cases s.params v raw
  · simp [hbad, isParseAnswer_err] at hr
  rw [decodeSerial_delimited] at hr ⊢
  obtain ⟨t, hrun, hsame, hls', harr, hparse⟩ :=
    runSteps_opening (rest := .byte (stopOf s.params v) :: rest) hv ho hd hls (by simpa using ha) hr
  have hparams := params_of_same hsame
  obtain ⟨hv', ho', hd', -⟩ : t.AssemblingIn v .receiving := assemblingIn_of_same hsame ⟨hv, ho, hd, rfl⟩ hls'
  refine ⟨t, by simpa using hrun, hsame, hls', hparams ▸ hparse, ?_⟩
  have hend : step t = endFrame v (t.setArrivals rest) := by
    rw [step_serial harr hv' ho' hd', ← hparams]
    exact transition_receiving_stop v (t.setArrivals rest) hls'
  have hlen : (startOf s.params v :: (mid ++ [stopOf s.params v])).length = mid.length + 1 + 1 := by simp
  rw [hlen, runSteps_add _ 1 hrun, runSteps_one, hend]

/-- Settles O42: by `runSteps_frame` the end delimiter finds the body that whole-frame decode parsed. -/
theorem assemblerAgreesWithWholeFrameDecode : Obligations.AssemblerAgreesWithWholeFrameDecode := by
  intro v raw s rest hv ho hd hls ha
  refine ⟨fun f hf => ?_, fun e r hmem he => ?_⟩
  · obtain ⟨t, hrun, hsame, hls', hparse, hend⟩ := runSteps_frame hv ho hd hls ha (hf ▸ isParseAnswer_ok f)
    rw [endFrame_of_ok v (t.setArrivals rest) f (hparse.trans hf)] at hend
    obtain ⟨u, hu, hidle, -, -⟩ := dispatchSerial_keeps_assembler v f ((t.setArrivals rest).setLs .idle)
    exact ⟨t, hrun, hsame, hls', hend, u, hend.trans hu, hidle⟩
  · have herr : (e = .short ∨ e = .csum ∨ e = .len) ∧ dropReason e = r := by
      simp only [List.mem_cons, List.not_mem_nil, or_false, Prod.mk.injEq] at hmem
      obtain ⟨rfl, rfl⟩ | ⟨rfl, rfl⟩ | ⟨rfl, rfl⟩ := hmem <;> decide
    obtain ⟨herr, rfl⟩ := herr
    obtain ⟨t, -, hsame, -, hparse, hend⟩ :=
      runSteps_frame hv ho hd hls ha (he ▸ (isParseAnswer_err e).mpr herr)
    rw [endFrame_of_err v (t.setArrivals rest) e (hparse.trans he)] at hend
    exact ⟨_, sameButAssembler_trans hsame rfl, hend, rfl, rfl⟩

/-- Settles O43: the frame that the run dispatches does not pass the filter. -/
theorem frameForAnotherAddressIsInvisible : Obligations.FrameForAnotherAddressIsInvisible := by
  intro v raw f s rest hv ho hd hls ha hdec hdest
  obtain ⟨t, -, hsame, -, hend, -⟩ := (assemblerAgreesWithWholeFrameDecode v raw s rest hv ho hd hls ha).1 f hdec
  have hforeign : passesFilter ((t.setArrivals rest).setLs .idle) f = false := by
    have haddr : t.addrByte = s.addrByte := by rw [hsame]; rfl
    exact beq_eq_false_iff_ne.mpr (haddr ▸ hdest)
  exact ⟨_, hend.trans (dispatchSerial_of_not_passesFilter v f _ hforeign), sameButAssembler_trans hsame rfl⟩

/-! ### Resynchronisation (R269) -/

section Resynchronisation

variable (p : Params) (hus : p.opos.us = 0x1F) (heot : p.opos.eot = 0x04)

include hus heot

/-- Whole-frame decode of OPOS bytes looks at the two delimiters alone, so these bytes can be evaluated. -/
theorem decodeSerial_resync :
    decodeSerial p .opos [0x1F, 0x01, 0x05, 0x5B, 0x1F, 0x01, 0x01, 0x77, 0x86, 0x04] = .err .delim ∧
    decodeSerial p .opos [0x1F, 0x01, 0x05, 0x5B, 0x9F, 0x01, 0x01, 0x77, 0x86, 0x04] =
      .ok ⟨none, some 1, [0x5B, 0x9F, 0x01, 0x01, 0x77]⟩ ∧
    decodeSerial p .opos [0x1F, 0x01, 0x01, 0x77, 0x86, 0x04] = .ok ⟨none, some 1, [0x77]⟩ ∧
    scanInterior p .opos [] false [0x01, 0x05, 0x5B] = .err .csum := by
  obtain ⟨s450, us, eot, autoAck, wf1, wf2⟩ := p
  cases hus
  cases heot
  exact ⟨rfl, rfl, rfl, rfl⟩

end Resynchronisation

/-- Settles O44: the first four bytes leave a body being received; the fifth restarts it, so that the run over the last
six is that of the frame they are, which is for `cfg_addr`, no ACK and not watched. -/
theorem resynchronisationAcceptsAFrameNeverSent : Obligations.ResynchronisationAcceptsAFrameNeverSent := by
  intro s hus heot hv ho hd hls haddr hwatch ha
  obtain ⟨hbad, hsent, hframe, hprefix⟩ := decodeSerial_resync s.params hus heot
  refine ⟨hbad, hsent, ?_⟩
  obtain ⟨t, hrun, hsame, hls', harr, -⟩ :=
    runSteps_opening (v := .opos) (mid := [0x01, 0x05, 0x5B])
      (rest := [0x1F, 0x01, 0x01, 0x77, 0x86, 0x04].map Arrival.byte) hv ho hd (by simp [hls])
      (by rw [ha]; simp [startOf, hus]) (hprefix ▸ (isParseAnswer_err .csum).mpr (by decide))
  obtain ⟨hv', ho', hd', -⟩ : t.AssemblingIn .opos .receiving := assemblingIn_of_same hsame ⟨hv, ho, hd, rfl⟩ hls'
  obtain ⟨u, -, hsame', -, hdispatch, -⟩ :=
    (assemblerAgreesWithWholeFrameDecode .opos [0x1F, 0x01, 0x01, 0x77, 0x86, 0x04] t [] hv' ho' hd' (by simp [hls'])
      harr).1 ⟨none, some 1, [0x77]⟩ (params_of_same hsame ▸ hframe)
  have hsu : SameButAssembler s u := sameButAssembler_trans hsame hsame'
  have hcfg : u.cfgAddr = 1 := by rw [hsu, ← haddr]
  have hbit : u.watch.getLsbD 0x77 = false := by rw [hsu, ← hwatch]
  have hstore := dispatchSerial_of_response .opos ⟨none, some 1, [0x77]⟩ { u with ls := .idle, arrivals := [] }
    (passesFilter_of_dest_addrByte _ _ (by simp [State.addrByte, hcfg])) rfl hbit
  exact ⟨_, (runSteps_add 4 6 hrun).trans (hdispatch.trans hstore), rfl, rfl⟩

end Sys2Proof.Proofs
end
